-- ==== Sys2Proof/Word.lean ====
section
/-! DEFINITION. The word types of the machine (spec/00_scope.md R6, R7).

Register contents, memory contents and encoded fields are bit vectors; sizes, counts and the
keys of memory cells are natural numbers. -/

namespace Sys2Proof

/-- A byte, the granularity at which the store is exposed (R60). -/
abbrev Byte := BitVec 8

/-- A word: an opcode word, an extension word, a memory cell (`OPW = 16`, R6). -/
abbrev Word := BitVec 16

/-- A long: a data or address register, a raw 32-bit address (`XLEN = 32`, R6). -/
abbrev Long := BitVec 32

/-- The program counter: a 31-bit index of 16-bit cells (R25, R26). -/
abbrev CellIndex := BitVec 31

/-- The bits of an IEEE 754 binary64 number (R12). -/
abbrev Double := BitVec 64

/-- The number of a data register, or of an address register. -/
abbrev RegNo := Fin 8

/-- The unified register number of R23: 0 to 7 are `D0` to `D7`, 8 to 15 are `A0` to `A7`. -/
abbrev XRegNo := Fin 16

end Sys2Proof
end

