-- ==== Sys2Proof/Config.lean ====
section
/-! DEFINITION. The implementation parameters (spec/00_scope.md R6) and the free values.

Every parameter that the spec leaves OPEN and that is plain data is a field of `Config`; the
machine carries its `Config` in its state, no step writes it, and so a statement about every state
is a statement about every configuration. The parameters that are functions (the mathematics
library, the values the architecture leaves undefined) are opaque constants: nothing can be proved
about the value of one. -/

namespace Sys2Proof

/-- The functions of the float bridge's menu (R392). -/
inductive FpFn where
  | add | sub | double | halve | div | recip | mul | square | sqrt | cos | sin | cot | tan
deriving DecidableEq, Repr

/-- The two variants of a bridge operation (R393, R396). -/
inductive FpVariant where
  | acc
  | stack
deriving DecidableEq, Repr

/-- The operand order of the bridge's SUB and DIV (R393). -/
inductive FpOrder where
  | tosOpNos
  | nosOpTos
deriving DecidableEq, Repr

/-- One entry of `FP_OPS`: a bridge opcode and its descriptor (R393). -/
structure FpOp where
  opcode    : Word
  fn        : FpFn
  variant   : FpVariant
  order     : FpOrder
  slowEntry : Long
  clobbers  : List XRegNo
deriving DecidableEq, Repr

/-- The host-communication band (R116): its first word, its length and its stop sentinel. -/
structure HostBand where
  base  : Nat
  count : Nat
  stop  : Word
deriving DecidableEq, Repr

/-- The OPEN parameters of R6. The constraints R6 and `92_eei_decisions.md` set on them are
`Config.wf` of `WellFormed.lean`. -/
structure Config where
  /-- `CUTOFF_MASK`, ANDed onto every address before use (R62). -/
  cutoffMask    : Long
  /-- `RAM_SIZE`. -/
  ramSize       : Nat
  /-- `LINKAGE_LENGTH`. -/
  linkageLength : Nat
  /-- `SCREEN_START`, the lowest address whose stored writes are reported (R72). -/
  screenStart   : Nat
  /-- `SCREEN_STOP`. -/
  screenStop    : Nat
  /-- `TOTAL_RAM_SIZE`, the writable boundary. -/
  totalRamSize  : Nat
  /-- `TOTAL_MEM_SIZE`, the readable boundary. -/
  totalMemSize  : Nat
  /-- `EXT_INT_VECTOR` (D6). -/
  extIntVector  : Nat
  /-- `INT_MASK_GATING` (D7). -/
  intMaskGating : Bool
  /-- `INT_LEVEL`, used only when gating is on (D7). -/
  intLevel      : BitVec 3
  /-- `HOSTTRAP_BASE`, `HOSTTRAP_COUNT`, `HOSTTRAP_STOP` (D12). -/
  band          : HostBand
  /-- `FP_OPS` (D15). -/
  fpOps         : List FpOp
  /-- `FP_PTR_REG` (D15). -/
  fpPtrReg      : RegNo
  /-- `FP_EXP_LO`. -/
  fpExpLo       : Nat
  /-- `FP_EXP_HI`. -/
  fpExpHi       : Nat
  /-- `RESET_D[0..7]`: what `reset()` leaves in the data registers (R470). -/
  resetD        : Vector Long 8
  /-- `RESET_A[0..6]`: what `reset()` leaves in `A0` to `A6` (R470). -/
  resetA        : Vector Long 7
  /-- `RESET_USP` (R470). -/
  resetUsp      : Long
  /-- What `reset()` leaves in the dead shadow `SSP` (93_implementation_defined.md A17). -/
  resetSsp      : Long
deriving DecidableEq, Repr

/-- DESIGN CHOICE (log 1). The configuration of `State.reset`: "Configuration T" of
`spec/95_test_vectors.md` section 0, with the document-literal values for the interrupt and zero
for the launch parameters the spec leaves open (log 4). -/
def Config.testT : Config where
  cutoffMask    := 0x00FFFFFF#32
  ramSize       := 0x20000
  linkageLength := 0x100
  screenStart   := 0x28000
  screenStop    := 0x30000
  totalRamSize  := 0x30000
  totalMemSize  := 0x40000
  extIntVector  := 2
  intMaskGating := false
  intLevel      := 2#3
  band          := { base := 0xA000, count := 0x100, stop := 0xA0FF#16 }
  fpOps         :=
    [ { opcode := 0xA010#16, fn := .add, variant := .stack, order := .tosOpNos, slowEntry := 0x3000#32, clobbers := [] },
      { opcode := 0xA011#16, fn := .div, variant := .stack, order := .tosOpNos, slowEntry := 0x3100#32, clobbers := [] },
      { opcode := 0xA012#16, fn := .sqrt, variant := .acc, order := .tosOpNos, slowEntry := 0x3200#32, clobbers := [] },
      { opcode := 0xA013#16, fn := .mul, variant := .acc, order := .tosOpNos, slowEntry := 0x3300#32, clobbers := [] },
      { opcode := 0xA014#16, fn := .sub, variant := .stack, order := .tosOpNos, slowEntry := 0x3400#32, clobbers := [] } ]
  fpPtrReg      := 1
  fpExpLo       := 0x403
  fpExpHi       := 0xBFF
  resetD        := Vector.replicate 8 0#32
  resetA        := Vector.replicate 7 0#32
  resetUsp      := 0#32
  resetSsp      := 0#32

/-- The free values `draw(n)` of R10: the k-th value that the architecture leaves undefined. The
machine applies it to a counter that every draw advances, so that each draw is a fresh value. -/
opaque Config.freeBits : Nat → Long

/-- `FP_LIB(COS, x)` of R395: a configuration function. Its constraint (1 ulp) is `fpLibConstraint` of
`Machine/Float.lean` (log 10). -/
opaque Config.fpLibCos : Double → Double

/-- `FP_LIB(SIN, x)` of R395. -/
opaque Config.fpLibSin : Double → Double

/-- `FP_LIB(TAN, x)` of R395. `FP_LIB(COT, x)` is the quotient 1 / `FP_LIB(TAN, x)`, as R395
requires, and so is no constant of its own. -/
opaque Config.fpLibTan : Double → Double

end Sys2Proof
end

