-- ==== Sys2Proof/Syntax.lean ====
section
/-! DEFINITION. The instructions (spec/30_encoding.md R112): one constructor of `Instr` for each row
of spec/opcode_table.json. An instruction holds the fields of its opcode word and the contents of its
extension words, already taken apart; the bits the processor ignores (R117) are not kept. -/

namespace Sys2Proof

/-- Operand sizes (R8). -/
inductive Size where
  | b
  | w
  | l
deriving DecidableEq, Repr

/-- A brief extension word (R105): the index register, whether all 32 bits of it are used, and the
displacement. Its bits 10 to 8 are ignored and are not held. -/
structure Brief where
  isAddr : Bool
  xreg   : RegNo
  isLong : Bool
  disp   : Byte
deriving DecidableEq, Repr

/-- An operand given by an addressing mode, with the contents of its extension words: the twelve
addressing modes of R102. -/
inductive EA where
  /-- `Dn` -/
  | dn (r : RegNo)
  /-- `An` -/
  | an (r : RegNo)
  /-- `(An)` -/
  | ind (r : RegNo)
  /-- `(An)+` -/
  | postInc (r : RegNo)
  /-- `-(An)` -/
  | preDec (r : RegNo)
  /-- `d16(An)` -/
  | disp (r : RegNo) (d : Word)
  /-- `d8(An,Xn)` -/
  | index (r : RegNo) (x : Brief)
  /-- `xxx.W` -/
  | absW (a : Word)
  /-- `xxx.L` -/
  | absL (a : Long)
  /-- `d16(PC)` -/
  | pcDisp (d : Word)
  /-- `d8(PC,Xn)` -/
  | pcIndex (x : Brief)
  /-- `#imm`, the value already sized (R160, R172) -/
  | imm (v : Long)
deriving DecidableEq, Repr

/-- The displacement of BRA, BSR and Bcc (R109): in the opcode word, where it is not zero, or in one
extension word. -/
inductive BranchDisp where
  | short (d : Byte)
  | word (d : Word)
deriving DecidableEq, Repr

/-- The two operand forms of the `RX_RY` format (R104): `Dy,Dx` and `-(Ay),-(Ax)`. -/
inductive RxForm where
  | dreg
  | predec
deriving DecidableEq, Repr

/-- The count of a register-form shift (R291): the field `ccc`, or a data register. -/
inductive ShiftCount where
  | imm (c : BitVec 3)
  | reg (r : RegNo)
deriving DecidableEq, Repr

/-- The instructions, in the order of spec/opcode_table.json. -/
inductive Instr where
  /-- `DC.W w`, a word of the host band (R360) -/
  | hosttrap (w : Word)
  /-- `ORI #imm8,CCR` (R286) -/
  | oriToCcr (imm : Byte)
  /-- `ORI #imm16,SR` (R354) -/
  | oriToSr (imm : Word)
  /-- `ORI.B #imm,ea` (R285) -/
  | oriB (imm : Byte) (ea : EA)
  /-- `ORI.W #imm,ea` (R285) -/
  | oriW (imm : Word) (ea : EA)
  /-- `ORI.L #imm,ea` (R285) -/
  | oriL (imm : Long) (ea : EA)
  /-- `ANDI #imm8,CCR` (R283) -/
  | andiToCcr (imm : Byte)
  /-- `ANDI #imm16,SR` (R353) -/
  | andiToSr (imm : Word)
  /-- `ANDI.B #imm,ea` (R282) -/
  | andiB (imm : Byte) (ea : EA)
  /-- `ANDI.W #imm,ea` (R282) -/
  | andiW (imm : Word) (ea : EA)
  /-- `ANDI.L #imm,ea` (R282) -/
  | andiL (imm : Long) (ea : EA)
  /-- `SUBI.B #imm,ea` (R248) -/
  | subiB (imm : Byte) (ea : EA)
  /-- `SUBI.W #imm,ea` (R248) -/
  | subiW (imm : Word) (ea : EA)
  /-- `SUBI.L #imm,ea` (R248) -/
  | subiL (imm : Long) (ea : EA)
  /-- `ADDI.B #imm,ea` (R243) -/
  | addiB (imm : Byte) (ea : EA)
  /-- `ADDI.W #imm,ea` (R243) -/
  | addiW (imm : Word) (ea : EA)
  /-- `ADDI.L #imm,ea` (R243) -/
  | addiL (imm : Long) (ea : EA)
  /-- `BTST #n,ea` (R302) -/
  | btstImm (bit : Byte) (ea : EA)
  /-- `BCHG #n,ea` (R303) -/
  | bchgImm (bit : Byte) (ea : EA)
  /-- `BCLR #n,ea` (R304) -/
  | bclrImm (bit : Byte) (ea : EA)
  /-- `BSET #n,ea` (R305) -/
  | bsetImm (bit : Byte) (ea : EA)
  /-- `EORI #imm8,CCR` (R289) -/
  | eoriToCcr (imm : Byte)
  /-- `EORI #imm16,SR` (R355) -/
  | eoriToSr (imm : Word)
  /-- `EORI.B #imm,ea` (R288) -/
  | eoriB (imm : Byte) (ea : EA)
  /-- `EORI.W #imm,ea` (R288) -/
  | eoriW (imm : Word) (ea : EA)
  /-- `EORI.L #imm,ea` (R288) -/
  | eoriL (imm : Long) (ea : EA)
  /-- `CMPI.B #imm,ea` (R253) -/
  | cmpiB (imm : Byte) (ea : EA)
  /-- `CMPI.W #imm,ea` (R253) -/
  | cmpiW (imm : Word) (ea : EA)
  /-- `CMPI.L #imm,ea` (R253) -/
  | cmpiL (imm : Long) (ea : EA)
  /-- `BTST Dn,ea` (R302) -/
  | btstReg (dn : RegNo) (ea : EA)
  /-- `BCHG Dn,ea` (R303) -/
  | bchgReg (dn : RegNo) (ea : EA)
  /-- `BCLR Dn,ea` (R304) -/
  | bclrReg (dn : RegNo) (ea : EA)
  /-- `BSET Dn,ea` (R305) -/
  | bsetReg (dn : RegNo) (ea : EA)
  /-- `MOVEP.W d16(Ay),Dx` (R217) -/
  | movepLoadW (dn : RegNo) (an : RegNo) (disp : Word)
  /-- `MOVEP.L d16(Ay),Dx` (R217) -/
  | movepLoadL (dn : RegNo) (an : RegNo) (disp : Word)
  /-- `MOVEP.W Dx,d16(Ay)` (R217) -/
  | movepStoreW (dn : RegNo) (an : RegNo) (disp : Word)
  /-- `MOVEP.L Dx,d16(Ay)` (R217) -/
  | movepStoreL (dn : RegNo) (an : RegNo) (disp : Word)
  /-- `MOVE.B src,dst` (R211) -/
  | moveB (src : EA) (dst : EA)
  /-- `MOVE.L src,dst` (R211) -/
  | moveL (src : EA) (dst : EA)
  /-- `MOVEA.L src,An` (R212) -/
  | moveaL (src : EA) (an : RegNo)
  /-- `MOVE.W src,dst` (R211) -/
  | moveW (src : EA) (dst : EA)
  /-- `MOVEA.W src,An` (R212) -/
  | moveaW (src : EA) (an : RegNo)
  /-- `NEGX.B ea` (R256) -/
  | negxB (ea : EA)
  /-- `NEGX.W ea` (R256) -/
  | negxW (ea : EA)
  /-- `NEGX.L ea` (R256) -/
  | negxL (ea : EA)
  /-- `MOVE SR,ea` (R350) -/
  | moveFromSr (ea : EA)
  /-- `CHK.W ea,Dn` (R343) -/
  | chk (ea : EA) (dn : RegNo)
  /-- `LEA ea,An` (R218) -/
  | lea (ea : EA) (an : RegNo)
  /-- `CLR.B ea` (R224) -/
  | clrB (ea : EA)
  /-- `CLR.W ea` (R224) -/
  | clrW (ea : EA)
  /-- `CLR.L ea` (R224) -/
  | clrL (ea : EA)
  /-- `NEG.B ea` (R255) -/
  | negB (ea : EA)
  /-- `NEG.W ea` (R255) -/
  | negW (ea : EA)
  /-- `NEG.L ea` (R255) -/
  | negL (ea : EA)
  /-- `MOVE ea,CCR` (R352) -/
  | moveToCcr (ea : EA)
  /-- `NOT.B ea` (R290) -/
  | notB (ea : EA)
  /-- `NOT.W ea` (R290) -/
  | notW (ea : EA)
  /-- `NOT.L ea` (R290) -/
  | notL (ea : EA)
  /-- `MOVE ea,SR` (R351) -/
  | moveToSr (ea : EA)
  /-- `NBCD ea` (R264) -/
  | nbcd (ea : EA)
  /-- `SWAP Dn` (R221) -/
  | swap (dn : RegNo)
  /-- `PEA ea` (R219) -/
  | pea (ea : EA)
  /-- `EXT.W Dn` (R225) -/
  | extW (dn : RegNo)
  /-- `EXT.L Dn` (R225) -/
  | extL (dn : RegNo)
  /-- `MOVEM.W list,ea` (R214) -/
  | movemStoreW (mask : Word) (ea : EA)
  /-- `MOVEM.L list,ea` (R214) -/
  | movemStoreL (mask : Word) (ea : EA)
  /-- `MOVEM.W ea,list` (R215) -/
  | movemLoadW (mask : Word) (ea : EA)
  /-- `MOVEM.L ea,list` (R215) -/
  | movemLoadL (mask : Word) (ea : EA)
  /-- `TST.B ea` (R257) -/
  | tstB (ea : EA)
  /-- `TST.W ea` (R257) -/
  | tstW (ea : EA)
  /-- `TST.L ea` (R257) -/
  | tstL (ea : EA)
  /-- `TAS ea` (R309) -/
  | tas (ea : EA)
  /-- `ILLEGAL` (R344) -/
  | illegal
  /-- `TRAP #v` (R341) -/
  | trap (v : BitVec 4)
  /-- `LINK An,#d16` (R222) -/
  | link (an : RegNo) (disp : Word)
  /-- `UNLK An` (R223) -/
  | unlk (an : RegNo)
  /-- `MOVE An,USP` (R356) -/
  | moveToUsp (an : RegNo)
  /-- `MOVE USP,An` (R356) -/
  | moveFromUsp (an : RegNo)
  /-- `RESET` (R349) -/
  | reset
  /-- `NOP` (R331) -/
  | nop
  /-- `STOP #imm16` (R348) -/
  | stop (imm : Word)
  /-- `RTE` (R347) -/
  | rte
  /-- `RTS` (R327) -/
  | rts
  /-- `TRAPV` (R342) -/
  | trapv
  /-- `RTR` (R328) -/
  | rtr
  /-- `JSR ea` (R326) -/
  | jsr (ea : EA)
  /-- `JMP ea` (R325) -/
  | jmp (ea : EA)
  /-- `ADDQ.B #q,ea` (R244) -/
  | addqB (q : BitVec 3) (ea : EA)
  /-- `ADDQ.W #q,ea` (R244) -/
  | addqW (q : BitVec 3) (ea : EA)
  /-- `ADDQ.L #q,ea` (R244) -/
  | addqL (q : BitVec 3) (ea : EA)
  /-- `SUBQ.B #q,ea` (R249) -/
  | subqB (q : BitVec 3) (ea : EA)
  /-- `SUBQ.W #q,ea` (R249) -/
  | subqW (q : BitVec 3) (ea : EA)
  /-- `SUBQ.L #q,ea` (R249) -/
  | subqL (q : BitVec 3) (ea : EA)
  /-- `ST ea` (R310) -/
  | st (ea : EA)
  /-- `SF ea` (R310) -/
  | sf (ea : EA)
  /-- `SHI ea` (R310) -/
  | shi (ea : EA)
  /-- `SLS ea` (R310) -/
  | sls (ea : EA)
  /-- `SCC ea` (R310) -/
  | scc (ea : EA)
  /-- `SCS ea` (R310) -/
  | scs (ea : EA)
  /-- `SNE ea` (R310) -/
  | sne (ea : EA)
  /-- `SEQ ea` (R310) -/
  | seq (ea : EA)
  /-- `SVC ea` (R310) -/
  | svc (ea : EA)
  /-- `SVS ea` (R310) -/
  | svs (ea : EA)
  /-- `SPL ea` (R310) -/
  | spl (ea : EA)
  /-- `SMI ea` (R310) -/
  | smi (ea : EA)
  /-- `SGE ea` (R310) -/
  | sge (ea : EA)
  /-- `SLT ea` (R310) -/
  | slt (ea : EA)
  /-- `SGT ea` (R310) -/
  | sgt (ea : EA)
  /-- `SLE ea` (R310) -/
  | sle (ea : EA)
  /-- `DBT Dn,label` (R324) -/
  | dbt (dn : RegNo) (disp : Word)
  /-- `DBF Dn,label` (R324) -/
  | dbf (dn : RegNo) (disp : Word)
  /-- `DBHI Dn,label` (R324) -/
  | dbhi (dn : RegNo) (disp : Word)
  /-- `DBLS Dn,label` (R324) -/
  | dbls (dn : RegNo) (disp : Word)
  /-- `DBCC Dn,label` (R324) -/
  | dbcc (dn : RegNo) (disp : Word)
  /-- `DBCS Dn,label` (R324) -/
  | dbcs (dn : RegNo) (disp : Word)
  /-- `DBNE Dn,label` (R324) -/
  | dbne (dn : RegNo) (disp : Word)
  /-- `DBEQ Dn,label` (R324) -/
  | dbeq (dn : RegNo) (disp : Word)
  /-- `DBVC Dn,label` (R324) -/
  | dbvc (dn : RegNo) (disp : Word)
  /-- `DBVS Dn,label` (R324) -/
  | dbvs (dn : RegNo) (disp : Word)
  /-- `DBPL Dn,label` (R324) -/
  | dbpl (dn : RegNo) (disp : Word)
  /-- `DBMI Dn,label` (R324) -/
  | dbmi (dn : RegNo) (disp : Word)
  /-- `DBGE Dn,label` (R324) -/
  | dbge (dn : RegNo) (disp : Word)
  /-- `DBLT Dn,label` (R324) -/
  | dblt (dn : RegNo) (disp : Word)
  /-- `DBGT Dn,label` (R324) -/
  | dbgt (dn : RegNo) (disp : Word)
  /-- `DBLE Dn,label` (R324) -/
  | dble (dn : RegNo) (disp : Word)
  /-- `BRA label` (R321) -/
  | bra (d : BranchDisp)
  /-- `BSR label` (R322) -/
  | bsr (d : BranchDisp)
  /-- `BHI label` (R323) -/
  | bhi (d : BranchDisp)
  /-- `BLS label` (R323) -/
  | bls (d : BranchDisp)
  /-- `BCC label` (R323) -/
  | bcc (d : BranchDisp)
  /-- `BCS label` (R323) -/
  | bcs (d : BranchDisp)
  /-- `BNE label` (R323) -/
  | bne (d : BranchDisp)
  /-- `BEQ label` (R323) -/
  | beq (d : BranchDisp)
  /-- `BVC label` (R323) -/
  | bvc (d : BranchDisp)
  /-- `BVS label` (R323) -/
  | bvs (d : BranchDisp)
  /-- `BPL label` (R323) -/
  | bpl (d : BranchDisp)
  /-- `BMI label` (R323) -/
  | bmi (d : BranchDisp)
  /-- `BGE label` (R323) -/
  | bge (d : BranchDisp)
  /-- `BLT label` (R323) -/
  | blt (d : BranchDisp)
  /-- `BGT label` (R323) -/
  | bgt (d : BranchDisp)
  /-- `BLE label` (R323) -/
  | ble (d : BranchDisp)
  /-- `MOVEQ #d8,Dn` (R213) -/
  | moveq (dn : RegNo) (data : Byte)
  /-- `OR.B ea,Dn` (R284) -/
  | orEaDnB (ea : EA) (dn : RegNo)
  /-- `OR.W ea,Dn` (R284) -/
  | orEaDnW (ea : EA) (dn : RegNo)
  /-- `OR.L ea,Dn` (R284) -/
  | orEaDnL (ea : EA) (dn : RegNo)
  /-- `DIVU.W ea,Dn` (R260) -/
  | divu (ea : EA) (dn : RegNo)
  /-- `SBCD Dy,Dx` and `SBCD -(Ay),-(Ax)` (R263) -/
  | sbcd (form : RxForm) (ry : RegNo) (rx : RegNo)
  /-- `OR.B Dn,ea` (R284) -/
  | orDnEaB (dn : RegNo) (ea : EA)
  /-- `OR.W Dn,ea` (R284) -/
  | orDnEaW (dn : RegNo) (ea : EA)
  /-- `OR.L Dn,ea` (R284) -/
  | orDnEaL (dn : RegNo) (ea : EA)
  /-- `DIVS.W ea,Dn` (R261) -/
  | divs (ea : EA) (dn : RegNo)
  /-- `SUB.B ea,Dn` (R246) -/
  | subEaDnB (ea : EA) (dn : RegNo)
  /-- `SUB.W ea,Dn` (R246) -/
  | subEaDnW (ea : EA) (dn : RegNo)
  /-- `SUB.L ea,Dn` (R246) -/
  | subEaDnL (ea : EA) (dn : RegNo)
  /-- `SUBA.W ea,An` (R247) -/
  | subaW (ea : EA) (an : RegNo)
  /-- `SUBX.B Dy,Dx` and `SUBX.B -(Ay),-(Ax)` (R250) -/
  | subxB (form : RxForm) (ry : RegNo) (rx : RegNo)
  /-- `SUBX.W Dy,Dx` and `SUBX.W -(Ay),-(Ax)` (R250) -/
  | subxW (form : RxForm) (ry : RegNo) (rx : RegNo)
  /-- `SUBX.L Dy,Dx` and `SUBX.L -(Ay),-(Ax)` (R250) -/
  | subxL (form : RxForm) (ry : RegNo) (rx : RegNo)
  /-- `SUB.B Dn,ea` (R246) -/
  | subDnEaB (dn : RegNo) (ea : EA)
  /-- `SUB.W Dn,ea` (R246) -/
  | subDnEaW (dn : RegNo) (ea : EA)
  /-- `SUB.L Dn,ea` (R246) -/
  | subDnEaL (dn : RegNo) (ea : EA)
  /-- `SUBA.L ea,An` (R247) -/
  | subaL (ea : EA) (an : RegNo)
  /-- `CMP.B ea,Dn` (R251) -/
  | cmpB (ea : EA) (dn : RegNo)
  /-- `CMP.W ea,Dn` (R251) -/
  | cmpW (ea : EA) (dn : RegNo)
  /-- `CMP.L ea,Dn` (R251) -/
  | cmpL (ea : EA) (dn : RegNo)
  /-- `CMPA.W ea,An` (R252) -/
  | cmpaW (ea : EA) (an : RegNo)
  /-- `CMPM.B (Ay)+,(Ax)+` (R254) -/
  | cmpmB (ay : RegNo) (ax : RegNo)
  /-- `CMPM.W (Ay)+,(Ax)+` (R254) -/
  | cmpmW (ay : RegNo) (ax : RegNo)
  /-- `CMPM.L (Ay)+,(Ax)+` (R254) -/
  | cmpmL (ay : RegNo) (ax : RegNo)
  /-- `EOR.B Dn,ea` (R287) -/
  | eorB (dn : RegNo) (ea : EA)
  /-- `EOR.W Dn,ea` (R287) -/
  | eorW (dn : RegNo) (ea : EA)
  /-- `EOR.L Dn,ea` (R287) -/
  | eorL (dn : RegNo) (ea : EA)
  /-- `CMPA.L ea,An` (R252) -/
  | cmpaL (ea : EA) (an : RegNo)
  /-- `AND.B ea,Dn` (R281) -/
  | andEaDnB (ea : EA) (dn : RegNo)
  /-- `AND.W ea,Dn` (R281) -/
  | andEaDnW (ea : EA) (dn : RegNo)
  /-- `AND.L ea,Dn` (R281) -/
  | andEaDnL (ea : EA) (dn : RegNo)
  /-- `MULU.W ea,Dn` (R258) -/
  | mulu (ea : EA) (dn : RegNo)
  /-- `ABCD Dy,Dx` and `ABCD -(Ay),-(Ax)` (R262) -/
  | abcd (form : RxForm) (ry : RegNo) (rx : RegNo)
  /-- `EXG Dx,Dy` (R220) -/
  | exgDD (rx : RegNo) (ry : RegNo)
  /-- `EXG Ax,Ay` (R220) -/
  | exgAA (rx : RegNo) (ry : RegNo)
  /-- `EXG Dx,Ay` (R220) -/
  | exgDA (rx : RegNo) (ry : RegNo)
  /-- `AND.B Dn,ea` (R281) -/
  | andDnEaB (dn : RegNo) (ea : EA)
  /-- `AND.W Dn,ea` (R281) -/
  | andDnEaW (dn : RegNo) (ea : EA)
  /-- `AND.L Dn,ea` (R281) -/
  | andDnEaL (dn : RegNo) (ea : EA)
  /-- `MULS.W ea,Dn` (R259) -/
  | muls (ea : EA) (dn : RegNo)
  /-- `ADD.B ea,Dn` (R241) -/
  | addEaDnB (ea : EA) (dn : RegNo)
  /-- `ADD.W ea,Dn` (R241) -/
  | addEaDnW (ea : EA) (dn : RegNo)
  /-- `ADD.L ea,Dn` (R241) -/
  | addEaDnL (ea : EA) (dn : RegNo)
  /-- `ADDA.W ea,An` (R242) -/
  | addaW (ea : EA) (an : RegNo)
  /-- `ADDX.B Dy,Dx` and `ADDX.B -(Ay),-(Ax)` (R245) -/
  | addxB (form : RxForm) (ry : RegNo) (rx : RegNo)
  /-- `ADDX.W Dy,Dx` and `ADDX.W -(Ay),-(Ax)` (R245) -/
  | addxW (form : RxForm) (ry : RegNo) (rx : RegNo)
  /-- `ADDX.L Dy,Dx` and `ADDX.L -(Ay),-(Ax)` (R245) -/
  | addxL (form : RxForm) (ry : RegNo) (rx : RegNo)
  /-- `ADD.B Dn,ea` (R241) -/
  | addDnEaB (dn : RegNo) (ea : EA)
  /-- `ADD.W Dn,ea` (R241) -/
  | addDnEaW (dn : RegNo) (ea : EA)
  /-- `ADD.L Dn,ea` (R241) -/
  | addDnEaL (dn : RegNo) (ea : EA)
  /-- `ADDA.L ea,An` (R242) -/
  | addaL (ea : EA) (an : RegNo)
  /-- `ASR.B #c,Dn` and `ASR.B Dm,Dn` (R293) -/
  | asrRegB (count : ShiftCount) (dn : RegNo)
  /-- `ASR.W #c,Dn` and `ASR.W Dm,Dn` (R293) -/
  | asrRegW (count : ShiftCount) (dn : RegNo)
  /-- `ASR.L #c,Dn` and `ASR.L Dm,Dn` (R293) -/
  | asrRegL (count : ShiftCount) (dn : RegNo)
  /-- `ASL.B #c,Dn` and `ASL.B Dm,Dn` (R292) -/
  | aslRegB (count : ShiftCount) (dn : RegNo)
  /-- `ASL.W #c,Dn` and `ASL.W Dm,Dn` (R292) -/
  | aslRegW (count : ShiftCount) (dn : RegNo)
  /-- `ASL.L #c,Dn` and `ASL.L Dm,Dn` (R292) -/
  | aslRegL (count : ShiftCount) (dn : RegNo)
  /-- `LSR.B #c,Dn` and `LSR.B Dm,Dn` (R295) -/
  | lsrRegB (count : ShiftCount) (dn : RegNo)
  /-- `LSR.W #c,Dn` and `LSR.W Dm,Dn` (R295) -/
  | lsrRegW (count : ShiftCount) (dn : RegNo)
  /-- `LSR.L #c,Dn` and `LSR.L Dm,Dn` (R295) -/
  | lsrRegL (count : ShiftCount) (dn : RegNo)
  /-- `LSL.B #c,Dn` and `LSL.B Dm,Dn` (R294) -/
  | lslRegB (count : ShiftCount) (dn : RegNo)
  /-- `LSL.W #c,Dn` and `LSL.W Dm,Dn` (R294) -/
  | lslRegW (count : ShiftCount) (dn : RegNo)
  /-- `LSL.L #c,Dn` and `LSL.L Dm,Dn` (R294) -/
  | lslRegL (count : ShiftCount) (dn : RegNo)
  /-- `ROXR.B #c,Dn` and `ROXR.B Dm,Dn` (R299) -/
  | roxrRegB (count : ShiftCount) (dn : RegNo)
  /-- `ROXR.W #c,Dn` and `ROXR.W Dm,Dn` (R299) -/
  | roxrRegW (count : ShiftCount) (dn : RegNo)
  /-- `ROXR.L #c,Dn` and `ROXR.L Dm,Dn` (R299) -/
  | roxrRegL (count : ShiftCount) (dn : RegNo)
  /-- `ROXL.B #c,Dn` and `ROXL.B Dm,Dn` (R298) -/
  | roxlRegB (count : ShiftCount) (dn : RegNo)
  /-- `ROXL.W #c,Dn` and `ROXL.W Dm,Dn` (R298) -/
  | roxlRegW (count : ShiftCount) (dn : RegNo)
  /-- `ROXL.L #c,Dn` and `ROXL.L Dm,Dn` (R298) -/
  | roxlRegL (count : ShiftCount) (dn : RegNo)
  /-- `ROR.B #c,Dn` and `ROR.B Dm,Dn` (R297) -/
  | rorRegB (count : ShiftCount) (dn : RegNo)
  /-- `ROR.W #c,Dn` and `ROR.W Dm,Dn` (R297) -/
  | rorRegW (count : ShiftCount) (dn : RegNo)
  /-- `ROR.L #c,Dn` and `ROR.L Dm,Dn` (R297) -/
  | rorRegL (count : ShiftCount) (dn : RegNo)
  /-- `ROL.B #c,Dn` and `ROL.B Dm,Dn` (R296) -/
  | rolRegB (count : ShiftCount) (dn : RegNo)
  /-- `ROL.W #c,Dn` and `ROL.W Dm,Dn` (R296) -/
  | rolRegW (count : ShiftCount) (dn : RegNo)
  /-- `ROL.L #c,Dn` and `ROL.L Dm,Dn` (R296) -/
  | rolRegL (count : ShiftCount) (dn : RegNo)
  /-- `ASR.W ea` (R293) -/
  | asrMem (ea : EA)
  /-- `ASL.W ea` (R292) -/
  | aslMem (ea : EA)
  /-- `LSR.W ea` (R295) -/
  | lsrMem (ea : EA)
  /-- `LSL.W ea` (R294) -/
  | lslMem (ea : EA)
  /-- `ROXR.W ea` (R299) -/
  | roxrMem (ea : EA)
  /-- `ROXL.W ea` (R298) -/
  | roxlMem (ea : EA)
  /-- `ROR.W ea` (R297) -/
  | rorMem (ea : EA)
  /-- `ROL.W ea` (R296) -/
  | rolMem (ea : EA)
  /-- a word `1010 …` outside the host band (R345) -/
  | linea (low : BitVec 12)
  /-- a word `1111 …` outside the host band (R346) -/
  | linef (low : BitVec 12)
  /-- a word that no other row of the table claims (R344) -/
  | illegalFiller (w : Word)
deriving DecidableEq, Repr

end Sys2Proof
end

