-- ==== Sys2Proof/WellFormed.lean ====
section
/-! DEFINITION. Which instructions are well formed (spec/30_encoding.md R111 to R116): the categories
of effective address, the opcode table as the spec's file gives it (which says which words are left
to the illegal filler), and the constraints of R6 on a configuration. -/

namespace Sys2Proof

/-- The categories of effective address of R111. -/
inductive Category where
  | all
  | data
  | dataNoImm
  | memalt
  | dataalt
  | alt
  | control
  | ctlaltPredec
  | controlPostinc
deriving DecidableEq, Repr

/-- The table of R111: whether a category holds an addressing mode. -/
def Category.member : Category → EA → Bool
  | .all, _ => true
  | .data, .an _ => false
  | .data, _ => true
  | .dataNoImm, .an _ | .dataNoImm, .imm _ => false
  | .dataNoImm, _ => true
  | .memalt, .ind _ | .memalt, .postInc _ | .memalt, .preDec _ | .memalt, .disp _ _
  | .memalt, .index _ _ | .memalt, .absW _ | .memalt, .absL _ => true
  | .memalt, _ => false
  | .dataalt, .an _ | .dataalt, .pcDisp _ | .dataalt, .pcIndex _ | .dataalt, .imm _ => false
  | .dataalt, _ => true
  | .alt, .pcDisp _ | .alt, .pcIndex _ | .alt, .imm _ => false
  | .alt, _ => true
  | .control, .ind _ | .control, .disp _ _ | .control, .index _ _ | .control, .absW _
  | .control, .absL _ | .control, .pcDisp _ | .control, .pcIndex _ => true
  | .control, _ => false
  | .ctlaltPredec, .ind _ | .ctlaltPredec, .preDec _ | .ctlaltPredec, .disp _ _
  | .ctlaltPredec, .index _ _ | .ctlaltPredec, .absW _ | .ctlaltPredec, .absL _ => true
  | .ctlaltPredec, _ => false
  | .controlPostinc, .ind _ | .controlPostinc, .postInc _ | .controlPostinc, .disp _ _
  | .controlPostinc, .index _ _ | .controlPostinc, .absW _ | .controlPostinc, .absL _
  | .controlPostinc, .pcDisp _ | .controlPostinc, .pcIndex _ => true
  | .controlPostinc, _ => false

/-- Whether the operand is an address register. -/
def EA.isAn : EA → Bool
  | .an _ => true
  | _ => false

/-- Whether an operand of size `sz` may be `ea`: the category's table, and no address register with
size B (R111, "Further restriction"). -/
def Category.admits (c : Category) (sz : Size) (ea : EA) : Bool :=
  c.member ea && !(decide (sz = .b) && ea.isAn)

/-- An immediate of size B or W has no bit above its size (R107). -/
def EA.wf (sz : Size) : EA → Bool
  | .imm v =>
    match sz with
    | .b => decide (v.toNat < 2 ^ 8)
    | .w => decide (v.toNat < 2 ^ 16)
    | .l => true
  | _ => true

/-- A displacement in the opcode word is not zero (R109). -/
def BranchDisp.wf : BranchDisp → Bool
  | .short d => decide (d ≠ 0#8)
  | .word _ => true

/-- Whether a word lies in the host band (R116). -/
def HostBand.contains (band : HostBand) (w : Word) : Bool :=
  decide (band.base ≤ w.toNat) && decide (w.toNat < band.base + band.count)

/-- One row of spec/opcode_table.json at priority 1: `w & mask = pattern`, the bitmap of the effective
addresses admitted in bits 5 to 0 (bit `8*mode + reg`), and, for MOVE, of the destinations admitted in
bits 11 to 6 (bit `8*dmode + dreg`). -/
structure TableRow where
  mask    : Nat
  pattern : Nat
  ea      : Option Nat
  dstEa   : Option Nat
deriving DecidableEq, Repr

/-- Whether a row claims a word (R113, step 2). -/
def TableRow.claims (r : TableRow) (w : Nat) : Bool :=
  decide (w &&& r.mask = r.pattern)
  && (match r.ea with
      | none => true
      | some m => m.testBit (w % 64))
  && (match r.dstEa with
      | none => true
      | some m => m.testBit (8 * (w / 64 % 8) + w / 512 % 8))

/-- Rows of opcode group 0: ORI_to_CCR, ORI_to_SR, ORI.B, ORI.W, ORI.L, ANDI_to_CCR, ANDI_to_SR, ANDI.B, ANDI.W, ANDI.L, SUBI.B, SUBI.W, SUBI.L, ADDI.B, ADDI.W, ADDI.L, BTST__n, BCHG__n, BCLR__n, BSET__n, EORI_to_CCR, EORI_to_SR, EORI.B, EORI.W. -/
def tableRows0a : List TableRow := [
  ⟨0xFFFF, 0x003C, none, none⟩,
  ⟨0xFFFF, 0x007C, none, none⟩,
  ⟨0xFFC0, 0x0000, (some 0x03FFFFFFFFFF00FF), none⟩,
  ⟨0xFFC0, 0x0040, (some 0x03FFFFFFFFFF00FF), none⟩,
  ⟨0xFFC0, 0x0080, (some 0x03FFFFFFFFFF00FF), none⟩,
  ⟨0xFFFF, 0x023C, none, none⟩,
  ⟨0xFFFF, 0x027C, none, none⟩,
  ⟨0xFFC0, 0x0200, (some 0x03FFFFFFFFFF00FF), none⟩,
  ⟨0xFFC0, 0x0240, (some 0x03FFFFFFFFFF00FF), none⟩,
  ⟨0xFFC0, 0x0280, (some 0x03FFFFFFFFFF00FF), none⟩,
  ⟨0xFFC0, 0x0400, (some 0x03FFFFFFFFFF00FF), none⟩,
  ⟨0xFFC0, 0x0440, (some 0x03FFFFFFFFFF00FF), none⟩,
  ⟨0xFFC0, 0x0480, (some 0x03FFFFFFFFFF00FF), none⟩,
  ⟨0xFFC0, 0x0600, (some 0x03FFFFFFFFFF00FF), none⟩,
  ⟨0xFFC0, 0x0640, (some 0x03FFFFFFFFFF00FF), none⟩,
  ⟨0xFFC0, 0x0680, (some 0x03FFFFFFFFFF00FF), none⟩,
  ⟨0xFFC0, 0x0800, (some 0x0FFFFFFFFFFF00FF), none⟩,
  ⟨0xFFC0, 0x0840, (some 0x03FFFFFFFFFF00FF), none⟩,
  ⟨0xFFC0, 0x0880, (some 0x03FFFFFFFFFF00FF), none⟩,
  ⟨0xFFC0, 0x08C0, (some 0x03FFFFFFFFFF00FF), none⟩,
  ⟨0xFFFF, 0x0A3C, none, none⟩,
  ⟨0xFFFF, 0x0A7C, none, none⟩,
  ⟨0xFFC0, 0x0A00, (some 0x03FFFFFFFFFF00FF), none⟩,
  ⟨0xFFC0, 0x0A40, (some 0x03FFFFFFFFFF00FF), none⟩]

/-- Rows of opcode group 0: EORI.L, CMPI.B, CMPI.W, CMPI.L, BTST_Dn, BCHG_Dn, BCLR_Dn, BSET_Dn, MOVEP.W__d16_Ay__Dx, MOVEP.L__d16_Ay__Dx, MOVEP.W_Dx__d16_Ay, MOVEP.L_Dx__d16_Ay. -/
def tableRows0b : List TableRow := [
  ⟨0xFFC0, 0x0A80, (some 0x03FFFFFFFFFF00FF), none⟩,
  ⟨0xFFC0, 0x0C00, (some 0x03FFFFFFFFFF00FF), none⟩,
  ⟨0xFFC0, 0x0C40, (some 0x03FFFFFFFFFF00FF), none⟩,
  ⟨0xFFC0, 0x0C80, (some 0x03FFFFFFFFFF00FF), none⟩,
  ⟨0xF1C0, 0x0100, (some 0x1FFFFFFFFFFF00FF), none⟩,
  ⟨0xF1C0, 0x0140, (some 0x03FFFFFFFFFF00FF), none⟩,
  ⟨0xF1C0, 0x0180, (some 0x03FFFFFFFFFF00FF), none⟩,
  ⟨0xF1C0, 0x01C0, (some 0x03FFFFFFFFFF00FF), none⟩,
  ⟨0xF1F8, 0x0108, none, none⟩,
  ⟨0xF1F8, 0x0148, none, none⟩,
  ⟨0xF1F8, 0x0188, none, none⟩,
  ⟨0xF1F8, 0x01C8, none, none⟩]

/-- Rows of opcode group 1: MOVE.B. -/
def tableRows1 : List TableRow := [
  ⟨0xF000, 0x1000, (some 0x1FFFFFFFFFFF00FF), (some 0x03FFFFFFFFFF00FF)⟩]

/-- Rows of opcode group 2: MOVE.L, MOVEA.L. -/
def tableRows2 : List TableRow := [
  ⟨0xF000, 0x2000, (some 0x1FFFFFFFFFFFFFFF), (some 0x03FFFFFFFFFF00FF)⟩,
  ⟨0xF1C0, 0x2040, (some 0x1FFFFFFFFFFFFFFF), none⟩]

/-- Rows of opcode group 3: MOVE.W, MOVEA.W. -/
def tableRows3 : List TableRow := [
  ⟨0xF000, 0x3000, (some 0x1FFFFFFFFFFFFFFF), (some 0x03FFFFFFFFFF00FF)⟩,
  ⟨0xF1C0, 0x3040, (some 0x1FFFFFFFFFFFFFFF), none⟩]

/-- Rows of opcode group 4: NEGX.B, NEGX.W, NEGX.L, MOVE_from_SR, CHK, LEA, CLR.B, CLR.W, CLR.L, NEG.B, NEG.W, NEG.L, MOVE_to_CCR, NOT.B, NOT.W, NOT.L, MOVE_to_SR, NBCD, SWAP, PEA, EXT.W, EXT.L, MOVEM.W_regs_ea, MOVEM.L_regs_ea. -/
def tableRows4a : List TableRow := [
  ⟨0xFFC0, 0x4000, (some 0x03FFFFFFFFFF00FF), none⟩,
  ⟨0xFFC0, 0x4040, (some 0x03FFFFFFFFFF00FF), none⟩,
  ⟨0xFFC0, 0x4080, (some 0x03FFFFFFFFFF00FF), none⟩,
  ⟨0xFFC0, 0x40C0, (some 0x03FFFFFFFFFF00FF), none⟩,
  ⟨0xF1C0, 0x4180, (some 0x1FFFFFFFFFFF00FF), none⟩,
  ⟨0xF1C0, 0x41C0, (some 0x0FFFFF0000FF0000), none⟩,
  ⟨0xFFC0, 0x4200, (some 0x03FFFFFFFFFF00FF), none⟩,
  ⟨0xFFC0, 0x4240, (some 0x03FFFFFFFFFF00FF), none⟩,
  ⟨0xFFC0, 0x4280, (some 0x03FFFFFFFFFF00FF), none⟩,
  ⟨0xFFC0, 0x4400, (some 0x03FFFFFFFFFF00FF), none⟩,
  ⟨0xFFC0, 0x4440, (some 0x03FFFFFFFFFF00FF), none⟩,
  ⟨0xFFC0, 0x4480, (some 0x03FFFFFFFFFF00FF), none⟩,
  ⟨0xFFC0, 0x44C0, (some 0x1FFFFFFFFFFF00FF), none⟩,
  ⟨0xFFC0, 0x4600, (some 0x03FFFFFFFFFF00FF), none⟩,
  ⟨0xFFC0, 0x4640, (some 0x03FFFFFFFFFF00FF), none⟩,
  ⟨0xFFC0, 0x4680, (some 0x03FFFFFFFFFF00FF), none⟩,
  ⟨0xFFC0, 0x46C0, (some 0x1FFFFFFFFFFF00FF), none⟩,
  ⟨0xFFC0, 0x4800, (some 0x03FFFFFFFFFF00FF), none⟩,
  ⟨0xFFF8, 0x4840, none, none⟩,
  ⟨0xFFC0, 0x4840, (some 0x0FFFFF0000FF0000), none⟩,
  ⟨0xFFF8, 0x4880, none, none⟩,
  ⟨0xFFF8, 0x48C0, none, none⟩,
  ⟨0xFFC0, 0x4880, (some 0x03FFFFFF00FF0000), none⟩,
  ⟨0xFFC0, 0x48C0, (some 0x03FFFFFF00FF0000), none⟩]

/-- Rows of opcode group 4: MOVEM.W_ea_regs, MOVEM.L_ea_regs, TST.B, TST.W, TST.L, TAS, ILLEGAL, TRAP, LINK, UNLK, MOVE_An_USP, MOVE_USP_An, RESET, NOP, STOP, RTE, RTS, TRAPV, RTR, JSR, JMP. -/
def tableRows4b : List TableRow := [
  ⟨0xFFC0, 0x4C80, (some 0x0FFFFF00FFFF0000), none⟩,
  ⟨0xFFC0, 0x4CC0, (some 0x0FFFFF00FFFF0000), none⟩,
  ⟨0xFFC0, 0x4A00, (some 0x03FFFFFFFFFF00FF), none⟩,
  ⟨0xFFC0, 0x4A40, (some 0x03FFFFFFFFFF00FF), none⟩,
  ⟨0xFFC0, 0x4A80, (some 0x03FFFFFFFFFF00FF), none⟩,
  ⟨0xFFC0, 0x4AC0, (some 0x03FFFFFFFFFF00FF), none⟩,
  ⟨0xFFFF, 0x4AFC, none, none⟩,
  ⟨0xFFF0, 0x4E40, none, none⟩,
  ⟨0xFFF8, 0x4E50, none, none⟩,
  ⟨0xFFF8, 0x4E58, none, none⟩,
  ⟨0xFFF8, 0x4E60, none, none⟩,
  ⟨0xFFF8, 0x4E68, none, none⟩,
  ⟨0xFFFF, 0x4E70, none, none⟩,
  ⟨0xFFFF, 0x4E71, none, none⟩,
  ⟨0xFFFF, 0x4E72, none, none⟩,
  ⟨0xFFFF, 0x4E73, none, none⟩,
  ⟨0xFFFF, 0x4E75, none, none⟩,
  ⟨0xFFFF, 0x4E76, none, none⟩,
  ⟨0xFFFF, 0x4E77, none, none⟩,
  ⟨0xFFC0, 0x4E80, (some 0x0FFFFF0000FF0000), none⟩,
  ⟨0xFFC0, 0x4EC0, (some 0x0FFFFF0000FF0000), none⟩]

/-- Rows of opcode group 5: ADDQ.B, ADDQ.W, ADDQ.L, SUBQ.B, SUBQ.W, SUBQ.L, ST, SF, SHI, SLS, SCC, SCS, SNE, SEQ, SVC, SVS, SPL, SMI, SGE, SLT, SGT, SLE, DBT, DBF. -/
def tableRows5a : List TableRow := [
  ⟨0xF1C0, 0x5000, (some 0x03FFFFFFFFFF00FF), none⟩,
  ⟨0xF1C0, 0x5040, (some 0x03FFFFFFFFFFFFFF), none⟩,
  ⟨0xF1C0, 0x5080, (some 0x03FFFFFFFFFFFFFF), none⟩,
  ⟨0xF1C0, 0x5100, (some 0x03FFFFFFFFFF00FF), none⟩,
  ⟨0xF1C0, 0x5140, (some 0x03FFFFFFFFFFFFFF), none⟩,
  ⟨0xF1C0, 0x5180, (some 0x03FFFFFFFFFFFFFF), none⟩,
  ⟨0xFFC0, 0x50C0, (some 0x03FFFFFFFFFF00FF), none⟩,
  ⟨0xFFC0, 0x51C0, (some 0x03FFFFFFFFFF00FF), none⟩,
  ⟨0xFFC0, 0x52C0, (some 0x03FFFFFFFFFF00FF), none⟩,
  ⟨0xFFC0, 0x53C0, (some 0x03FFFFFFFFFF00FF), none⟩,
  ⟨0xFFC0, 0x54C0, (some 0x03FFFFFFFFFF00FF), none⟩,
  ⟨0xFFC0, 0x55C0, (some 0x03FFFFFFFFFF00FF), none⟩,
  ⟨0xFFC0, 0x56C0, (some 0x03FFFFFFFFFF00FF), none⟩,
  ⟨0xFFC0, 0x57C0, (some 0x03FFFFFFFFFF00FF), none⟩,
  ⟨0xFFC0, 0x58C0, (some 0x03FFFFFFFFFF00FF), none⟩,
  ⟨0xFFC0, 0x59C0, (some 0x03FFFFFFFFFF00FF), none⟩,
  ⟨0xFFC0, 0x5AC0, (some 0x03FFFFFFFFFF00FF), none⟩,
  ⟨0xFFC0, 0x5BC0, (some 0x03FFFFFFFFFF00FF), none⟩,
  ⟨0xFFC0, 0x5CC0, (some 0x03FFFFFFFFFF00FF), none⟩,
  ⟨0xFFC0, 0x5DC0, (some 0x03FFFFFFFFFF00FF), none⟩,
  ⟨0xFFC0, 0x5EC0, (some 0x03FFFFFFFFFF00FF), none⟩,
  ⟨0xFFC0, 0x5FC0, (some 0x03FFFFFFFFFF00FF), none⟩,
  ⟨0xFFF8, 0x50C8, none, none⟩,
  ⟨0xFFF8, 0x51C8, none, none⟩]

/-- Rows of opcode group 5: DBHI, DBLS, DBCC, DBCS, DBNE, DBEQ, DBVC, DBVS, DBPL, DBMI, DBGE, DBLT, DBGT, DBLE. -/
def tableRows5b : List TableRow := [
  ⟨0xFFF8, 0x52C8, none, none⟩,
  ⟨0xFFF8, 0x53C8, none, none⟩,
  ⟨0xFFF8, 0x54C8, none, none⟩,
  ⟨0xFFF8, 0x55C8, none, none⟩,
  ⟨0xFFF8, 0x56C8, none, none⟩,
  ⟨0xFFF8, 0x57C8, none, none⟩,
  ⟨0xFFF8, 0x58C8, none, none⟩,
  ⟨0xFFF8, 0x59C8, none, none⟩,
  ⟨0xFFF8, 0x5AC8, none, none⟩,
  ⟨0xFFF8, 0x5BC8, none, none⟩,
  ⟨0xFFF8, 0x5CC8, none, none⟩,
  ⟨0xFFF8, 0x5DC8, none, none⟩,
  ⟨0xFFF8, 0x5EC8, none, none⟩,
  ⟨0xFFF8, 0x5FC8, none, none⟩]

/-- Rows of opcode group 6: BRA, BSR, BHI, BLS, BCC, BCS, BNE, BEQ, BVC, BVS, BPL, BMI, BGE, BLT, BGT, BLE. -/
def tableRows6 : List TableRow := [
  ⟨0xFF00, 0x6000, none, none⟩,
  ⟨0xFF00, 0x6100, none, none⟩,
  ⟨0xFF00, 0x6200, none, none⟩,
  ⟨0xFF00, 0x6300, none, none⟩,
  ⟨0xFF00, 0x6400, none, none⟩,
  ⟨0xFF00, 0x6500, none, none⟩,
  ⟨0xFF00, 0x6600, none, none⟩,
  ⟨0xFF00, 0x6700, none, none⟩,
  ⟨0xFF00, 0x6800, none, none⟩,
  ⟨0xFF00, 0x6900, none, none⟩,
  ⟨0xFF00, 0x6A00, none, none⟩,
  ⟨0xFF00, 0x6B00, none, none⟩,
  ⟨0xFF00, 0x6C00, none, none⟩,
  ⟨0xFF00, 0x6D00, none, none⟩,
  ⟨0xFF00, 0x6E00, none, none⟩,
  ⟨0xFF00, 0x6F00, none, none⟩]

/-- Rows of opcode group 7: MOVEQ. -/
def tableRows7 : List TableRow := [
  ⟨0xF100, 0x7000, none, none⟩]

/-- Rows of opcode group 8: OR_ea_Dn.B, OR_ea_Dn.W, OR_ea_Dn.L, DIVU, SBCD, OR_Dn_ea.B, OR_Dn_ea.W, OR_Dn_ea.L, DIVS. -/
def tableRows8 : List TableRow := [
  ⟨0xF1C0, 0x8000, (some 0x1FFFFFFFFFFF00FF), none⟩,
  ⟨0xF1C0, 0x8040, (some 0x1FFFFFFFFFFF00FF), none⟩,
  ⟨0xF1C0, 0x8080, (some 0x1FFFFFFFFFFF00FF), none⟩,
  ⟨0xF1C0, 0x80C0, (some 0x1FFFFFFFFFFF00FF), none⟩,
  ⟨0xF1F0, 0x8100, none, none⟩,
  ⟨0xF1C0, 0x8100, (some 0x03FFFFFFFFFF0000), none⟩,
  ⟨0xF1C0, 0x8140, (some 0x03FFFFFFFFFF0000), none⟩,
  ⟨0xF1C0, 0x8180, (some 0x03FFFFFFFFFF0000), none⟩,
  ⟨0xF1C0, 0x81C0, (some 0x1FFFFFFFFFFF00FF), none⟩]

/-- Rows of opcode group 9: SUB_ea_Dn.B, SUB_ea_Dn.W, SUB_ea_Dn.L, SUBA.W, SUBX.B, SUBX.W, SUBX.L, SUB_Dn_ea.B, SUB_Dn_ea.W, SUB_Dn_ea.L, SUBA.L. -/
def tableRows9 : List TableRow := [
  ⟨0xF1C0, 0x9000, (some 0x1FFFFFFFFFFF00FF), none⟩,
  ⟨0xF1C0, 0x9040, (some 0x1FFFFFFFFFFFFFFF), none⟩,
  ⟨0xF1C0, 0x9080, (some 0x1FFFFFFFFFFFFFFF), none⟩,
  ⟨0xF1C0, 0x90C0, (some 0x1FFFFFFFFFFFFFFF), none⟩,
  ⟨0xF1F0, 0x9100, none, none⟩,
  ⟨0xF1F0, 0x9140, none, none⟩,
  ⟨0xF1F0, 0x9180, none, none⟩,
  ⟨0xF1C0, 0x9100, (some 0x03FFFFFFFFFF0000), none⟩,
  ⟨0xF1C0, 0x9140, (some 0x03FFFFFFFFFF0000), none⟩,
  ⟨0xF1C0, 0x9180, (some 0x03FFFFFFFFFF0000), none⟩,
  ⟨0xF1C0, 0x91C0, (some 0x1FFFFFFFFFFFFFFF), none⟩]

/-- Rows of opcode group B: CMP.B, CMP.W, CMP.L, CMPA.W, CMPM.B, CMPM.W, CMPM.L, EOR.B, EOR.W, EOR.L, CMPA.L. -/
def tableRowsB : List TableRow := [
  ⟨0xF1C0, 0xB000, (some 0x1FFFFFFFFFFF00FF), none⟩,
  ⟨0xF1C0, 0xB040, (some 0x1FFFFFFFFFFFFFFF), none⟩,
  ⟨0xF1C0, 0xB080, (some 0x1FFFFFFFFFFFFFFF), none⟩,
  ⟨0xF1C0, 0xB0C0, (some 0x1FFFFFFFFFFFFFFF), none⟩,
  ⟨0xF1F8, 0xB108, none, none⟩,
  ⟨0xF1F8, 0xB148, none, none⟩,
  ⟨0xF1F8, 0xB188, none, none⟩,
  ⟨0xF1C0, 0xB100, (some 0x03FFFFFFFFFF00FF), none⟩,
  ⟨0xF1C0, 0xB140, (some 0x03FFFFFFFFFF00FF), none⟩,
  ⟨0xF1C0, 0xB180, (some 0x03FFFFFFFFFF00FF), none⟩,
  ⟨0xF1C0, 0xB1C0, (some 0x1FFFFFFFFFFFFFFF), none⟩]

/-- Rows of opcode group C: AND_ea_Dn.B, AND_ea_Dn.W, AND_ea_Dn.L, MULU, ABCD, EXG_Dx_Dy, EXG_Ax_Ay, EXG_Dx_Ay, AND_Dn_ea.B, AND_Dn_ea.W, AND_Dn_ea.L, MULS. -/
def tableRowsC : List TableRow := [
  ⟨0xF1C0, 0xC000, (some 0x1FFFFFFFFFFF00FF), none⟩,
  ⟨0xF1C0, 0xC040, (some 0x1FFFFFFFFFFF00FF), none⟩,
  ⟨0xF1C0, 0xC080, (some 0x1FFFFFFFFFFF00FF), none⟩,
  ⟨0xF1C0, 0xC0C0, (some 0x1FFFFFFFFFFF00FF), none⟩,
  ⟨0xF1F0, 0xC100, none, none⟩,
  ⟨0xF1F8, 0xC140, none, none⟩,
  ⟨0xF1F8, 0xC148, none, none⟩,
  ⟨0xF1F8, 0xC188, none, none⟩,
  ⟨0xF1C0, 0xC100, (some 0x03FFFFFFFFFF0000), none⟩,
  ⟨0xF1C0, 0xC140, (some 0x03FFFFFFFFFF0000), none⟩,
  ⟨0xF1C0, 0xC180, (some 0x03FFFFFFFFFF0000), none⟩,
  ⟨0xF1C0, 0xC1C0, (some 0x1FFFFFFFFFFF00FF), none⟩]

/-- Rows of opcode group D: ADD_ea_Dn.B, ADD_ea_Dn.W, ADD_ea_Dn.L, ADDA.W, ADDX.B, ADDX.W, ADDX.L, ADD_Dn_ea.B, ADD_Dn_ea.W, ADD_Dn_ea.L, ADDA.L. -/
def tableRowsD : List TableRow := [
  ⟨0xF1C0, 0xD000, (some 0x1FFFFFFFFFFF00FF), none⟩,
  ⟨0xF1C0, 0xD040, (some 0x1FFFFFFFFFFFFFFF), none⟩,
  ⟨0xF1C0, 0xD080, (some 0x1FFFFFFFFFFFFFFF), none⟩,
  ⟨0xF1C0, 0xD0C0, (some 0x1FFFFFFFFFFFFFFF), none⟩,
  ⟨0xF1F0, 0xD100, none, none⟩,
  ⟨0xF1F0, 0xD140, none, none⟩,
  ⟨0xF1F0, 0xD180, none, none⟩,
  ⟨0xF1C0, 0xD100, (some 0x03FFFFFFFFFF0000), none⟩,
  ⟨0xF1C0, 0xD140, (some 0x03FFFFFFFFFF0000), none⟩,
  ⟨0xF1C0, 0xD180, (some 0x03FFFFFFFFFF0000), none⟩,
  ⟨0xF1C0, 0xD1C0, (some 0x1FFFFFFFFFFFFFFF), none⟩]

/-- Rows of opcode group E: ASR.B_reg, ASR.W_reg, ASR.L_reg, ASL.B_reg, ASL.W_reg, ASL.L_reg, LSR.B_reg, LSR.W_reg, LSR.L_reg, LSL.B_reg, LSL.W_reg, LSL.L_reg, ROXR.B_reg, ROXR.W_reg, ROXR.L_reg, ROXL.B_reg, ROXL.W_reg, ROXL.L_reg, ROR.B_reg, ROR.W_reg, ROR.L_reg, ROL.B_reg, ROL.W_reg, ROL.L_reg. -/
def tableRowsEa : List TableRow := [
  ⟨0xF1D8, 0xE000, none, none⟩,
  ⟨0xF1D8, 0xE040, none, none⟩,
  ⟨0xF1D8, 0xE080, none, none⟩,
  ⟨0xF1D8, 0xE100, none, none⟩,
  ⟨0xF1D8, 0xE140, none, none⟩,
  ⟨0xF1D8, 0xE180, none, none⟩,
  ⟨0xF1D8, 0xE008, none, none⟩,
  ⟨0xF1D8, 0xE048, none, none⟩,
  ⟨0xF1D8, 0xE088, none, none⟩,
  ⟨0xF1D8, 0xE108, none, none⟩,
  ⟨0xF1D8, 0xE148, none, none⟩,
  ⟨0xF1D8, 0xE188, none, none⟩,
  ⟨0xF1D8, 0xE010, none, none⟩,
  ⟨0xF1D8, 0xE050, none, none⟩,
  ⟨0xF1D8, 0xE090, none, none⟩,
  ⟨0xF1D8, 0xE110, none, none⟩,
  ⟨0xF1D8, 0xE150, none, none⟩,
  ⟨0xF1D8, 0xE190, none, none⟩,
  ⟨0xF1D8, 0xE018, none, none⟩,
  ⟨0xF1D8, 0xE058, none, none⟩,
  ⟨0xF1D8, 0xE098, none, none⟩,
  ⟨0xF1D8, 0xE118, none, none⟩,
  ⟨0xF1D8, 0xE158, none, none⟩,
  ⟨0xF1D8, 0xE198, none, none⟩]

/-- Rows of opcode group E: ASR.W_mem, ASL.W_mem, LSR.W_mem, LSL.W_mem, ROXR.W_mem, ROXL.W_mem, ROR.W_mem, ROL.W_mem. -/
def tableRowsEb : List TableRow := [
  ⟨0xFFC0, 0xE0C0, (some 0x03FFFFFFFFFF0000), none⟩,
  ⟨0xFFC0, 0xE1C0, (some 0x03FFFFFFFFFF0000), none⟩,
  ⟨0xFFC0, 0xE2C0, (some 0x03FFFFFFFFFF0000), none⟩,
  ⟨0xFFC0, 0xE3C0, (some 0x03FFFFFFFFFF0000), none⟩,
  ⟨0xFFC0, 0xE4C0, (some 0x03FFFFFFFFFF0000), none⟩,
  ⟨0xFFC0, 0xE5C0, (some 0x03FFFFFFFFFF0000), none⟩,
  ⟨0xFFC0, 0xE6C0, (some 0x03FFFFFFFFFF0000), none⟩,
  ⟨0xFFC0, 0xE7C0, (some 0x03FFFFFFFFFF0000), none⟩]

/-- The 227 rows at priority 1, by the group of bits 15 to 12 (every row's mask holds those bits). -/
def opcodeRows (group : Nat) : List TableRow :=
  match group with
  | 0 => tableRows0a ++ tableRows0b
  | 1 => tableRows1
  | 2 => tableRows2
  | 3 => tableRows3
  | 4 => tableRows4a ++ tableRows4b
  | 5 => tableRows5a ++ tableRows5b
  | 6 => tableRows6
  | 7 => tableRows7
  | 8 => tableRows8
  | 9 => tableRows9
  | 11 => tableRowsB
  | 12 => tableRowsC
  | 13 => tableRowsD
  | 14 => tableRowsEa ++ tableRowsEb
  | _ => []

/-- Whether an instruction row of the opcode table claims the word. -/
def rowClaims (w : Nat) : Bool := (opcodeRows (w / 4096)).any (fun r => r.claims w)

/-- The words left to the catch-all filler (R113, step 4): in no row, not in the lines A and F. -/
def fillerWord (w : Word) : Bool :=
  !rowClaims w.toNat && decide (w.toNat / 4096 ≠ 0xA) && decide (w.toNat / 4096 ≠ 0xF)

/-- Whether an instruction is well formed beside a host band: its operands lie in the categories R112
gives it, its immediates have their size, and the catch-all words are words the spec leaves to them. -/
def Instr.wf (band : HostBand) : Instr → Bool
  | .hosttrap w => band.contains w
  | .oriToCcr _ => true
  | .oriToSr _ => true
  | .oriB _ ea => Category.admits .dataalt .b ea && EA.wf .b ea
  | .oriW _ ea => Category.admits .dataalt .w ea && EA.wf .w ea
  | .oriL _ ea => Category.admits .dataalt .l ea && EA.wf .l ea
  | .andiToCcr _ => true
  | .andiToSr _ => true
  | .andiB _ ea => Category.admits .dataalt .b ea && EA.wf .b ea
  | .andiW _ ea => Category.admits .dataalt .w ea && EA.wf .w ea
  | .andiL _ ea => Category.admits .dataalt .l ea && EA.wf .l ea
  | .subiB _ ea => Category.admits .dataalt .b ea && EA.wf .b ea
  | .subiW _ ea => Category.admits .dataalt .w ea && EA.wf .w ea
  | .subiL _ ea => Category.admits .dataalt .l ea && EA.wf .l ea
  | .addiB _ ea => Category.admits .dataalt .b ea && EA.wf .b ea
  | .addiW _ ea => Category.admits .dataalt .w ea && EA.wf .w ea
  | .addiL _ ea => Category.admits .dataalt .l ea && EA.wf .l ea
  | .btstImm _ ea => Category.admits .dataNoImm .b ea && EA.wf .b ea
  | .bchgImm _ ea => Category.admits .dataalt .b ea && EA.wf .b ea
  | .bclrImm _ ea => Category.admits .dataalt .b ea && EA.wf .b ea
  | .bsetImm _ ea => Category.admits .dataalt .b ea && EA.wf .b ea
  | .eoriToCcr _ => true
  | .eoriToSr _ => true
  | .eoriB _ ea => Category.admits .dataalt .b ea && EA.wf .b ea
  | .eoriW _ ea => Category.admits .dataalt .w ea && EA.wf .w ea
  | .eoriL _ ea => Category.admits .dataalt .l ea && EA.wf .l ea
  | .cmpiB _ ea => Category.admits .dataalt .b ea && EA.wf .b ea
  | .cmpiW _ ea => Category.admits .dataalt .w ea && EA.wf .w ea
  | .cmpiL _ ea => Category.admits .dataalt .l ea && EA.wf .l ea
  | .btstReg _ ea => Category.admits .data .b ea && EA.wf .b ea
  | .bchgReg _ ea => Category.admits .dataalt .b ea && EA.wf .b ea
  | .bclrReg _ ea => Category.admits .dataalt .b ea && EA.wf .b ea
  | .bsetReg _ ea => Category.admits .dataalt .b ea && EA.wf .b ea
  | .movepLoadW _ _ _ => true
  | .movepLoadL _ _ _ => true
  | .movepStoreW _ _ _ => true
  | .movepStoreL _ _ _ => true
  | .moveB src dst => Category.admits .all .b src && EA.wf .b src && Category.admits .dataalt .b dst && EA.wf .b dst
  | .moveL src dst => Category.admits .all .l src && EA.wf .l src && Category.admits .dataalt .l dst && EA.wf .l dst
  | .moveaL src _ => Category.admits .all .l src && EA.wf .l src
  | .moveW src dst => Category.admits .all .w src && EA.wf .w src && Category.admits .dataalt .w dst && EA.wf .w dst
  | .moveaW src _ => Category.admits .all .w src && EA.wf .w src
  | .negxB ea => Category.admits .dataalt .b ea && EA.wf .b ea
  | .negxW ea => Category.admits .dataalt .w ea && EA.wf .w ea
  | .negxL ea => Category.admits .dataalt .l ea && EA.wf .l ea
  | .moveFromSr ea => Category.admits .dataalt .w ea && EA.wf .w ea
  | .chk ea _ => Category.admits .data .w ea && EA.wf .w ea
  | .lea ea _ => Category.admits .control .l ea && EA.wf .l ea
  | .clrB ea => Category.admits .dataalt .b ea && EA.wf .b ea
  | .clrW ea => Category.admits .dataalt .w ea && EA.wf .w ea
  | .clrL ea => Category.admits .dataalt .l ea && EA.wf .l ea
  | .negB ea => Category.admits .dataalt .b ea && EA.wf .b ea
  | .negW ea => Category.admits .dataalt .w ea && EA.wf .w ea
  | .negL ea => Category.admits .dataalt .l ea && EA.wf .l ea
  | .moveToCcr ea => Category.admits .data .w ea && EA.wf .w ea
  | .notB ea => Category.admits .dataalt .b ea && EA.wf .b ea
  | .notW ea => Category.admits .dataalt .w ea && EA.wf .w ea
  | .notL ea => Category.admits .dataalt .l ea && EA.wf .l ea
  | .moveToSr ea => Category.admits .data .w ea && EA.wf .w ea
  | .nbcd ea => Category.admits .dataalt .b ea && EA.wf .b ea
  | .swap _ => true
  | .pea ea => Category.admits .control .l ea && EA.wf .l ea
  | .extW _ => true
  | .extL _ => true
  | .movemStoreW _ ea => Category.admits .ctlaltPredec .w ea && EA.wf .w ea
  | .movemStoreL _ ea => Category.admits .ctlaltPredec .l ea && EA.wf .l ea
  | .movemLoadW _ ea => Category.admits .controlPostinc .w ea && EA.wf .w ea
  | .movemLoadL _ ea => Category.admits .controlPostinc .l ea && EA.wf .l ea
  | .tstB ea => Category.admits .dataalt .b ea && EA.wf .b ea
  | .tstW ea => Category.admits .dataalt .w ea && EA.wf .w ea
  | .tstL ea => Category.admits .dataalt .l ea && EA.wf .l ea
  | .tas ea => Category.admits .dataalt .b ea && EA.wf .b ea
  | .illegal => true
  | .trap _ => true
  | .link _ _ => true
  | .unlk _ => true
  | .moveToUsp _ => true
  | .moveFromUsp _ => true
  | .reset => true
  | .nop => true
  | .stop _ => true
  | .rte => true
  | .rts => true
  | .trapv => true
  | .rtr => true
  | .jsr ea => Category.admits .control .l ea && EA.wf .l ea
  | .jmp ea => Category.admits .control .l ea && EA.wf .l ea
  | .addqB _ ea => Category.admits .alt .b ea && EA.wf .b ea
  | .addqW _ ea => Category.admits .alt .w ea && EA.wf .w ea
  | .addqL _ ea => Category.admits .alt .l ea && EA.wf .l ea
  | .subqB _ ea => Category.admits .alt .b ea && EA.wf .b ea
  | .subqW _ ea => Category.admits .alt .w ea && EA.wf .w ea
  | .subqL _ ea => Category.admits .alt .l ea && EA.wf .l ea
  | .st ea => Category.admits .dataalt .b ea && EA.wf .b ea
  | .sf ea => Category.admits .dataalt .b ea && EA.wf .b ea
  | .shi ea => Category.admits .dataalt .b ea && EA.wf .b ea
  | .sls ea => Category.admits .dataalt .b ea && EA.wf .b ea
  | .scc ea => Category.admits .dataalt .b ea && EA.wf .b ea
  | .scs ea => Category.admits .dataalt .b ea && EA.wf .b ea
  | .sne ea => Category.admits .dataalt .b ea && EA.wf .b ea
  | .seq ea => Category.admits .dataalt .b ea && EA.wf .b ea
  | .svc ea => Category.admits .dataalt .b ea && EA.wf .b ea
  | .svs ea => Category.admits .dataalt .b ea && EA.wf .b ea
  | .spl ea => Category.admits .dataalt .b ea && EA.wf .b ea
  | .smi ea => Category.admits .dataalt .b ea && EA.wf .b ea
  | .sge ea => Category.admits .dataalt .b ea && EA.wf .b ea
  | .slt ea => Category.admits .dataalt .b ea && EA.wf .b ea
  | .sgt ea => Category.admits .dataalt .b ea && EA.wf .b ea
  | .sle ea => Category.admits .dataalt .b ea && EA.wf .b ea
  | .dbt _ _ => true
  | .dbf _ _ => true
  | .dbhi _ _ => true
  | .dbls _ _ => true
  | .dbcc _ _ => true
  | .dbcs _ _ => true
  | .dbne _ _ => true
  | .dbeq _ _ => true
  | .dbvc _ _ => true
  | .dbvs _ _ => true
  | .dbpl _ _ => true
  | .dbmi _ _ => true
  | .dbge _ _ => true
  | .dblt _ _ => true
  | .dbgt _ _ => true
  | .dble _ _ => true
  | .bra d => BranchDisp.wf d
  | .bsr d => BranchDisp.wf d
  | .bhi d => BranchDisp.wf d
  | .bls d => BranchDisp.wf d
  | .bcc d => BranchDisp.wf d
  | .bcs d => BranchDisp.wf d
  | .bne d => BranchDisp.wf d
  | .beq d => BranchDisp.wf d
  | .bvc d => BranchDisp.wf d
  | .bvs d => BranchDisp.wf d
  | .bpl d => BranchDisp.wf d
  | .bmi d => BranchDisp.wf d
  | .bge d => BranchDisp.wf d
  | .blt d => BranchDisp.wf d
  | .bgt d => BranchDisp.wf d
  | .ble d => BranchDisp.wf d
  | .moveq _ _ => true
  | .orEaDnB ea _ => Category.admits .data .b ea && EA.wf .b ea
  | .orEaDnW ea _ => Category.admits .data .w ea && EA.wf .w ea
  | .orEaDnL ea _ => Category.admits .data .l ea && EA.wf .l ea
  | .divu ea _ => Category.admits .data .w ea && EA.wf .w ea
  | .sbcd _ _ _ => true
  | .orDnEaB _ ea => Category.admits .memalt .b ea && EA.wf .b ea
  | .orDnEaW _ ea => Category.admits .memalt .w ea && EA.wf .w ea
  | .orDnEaL _ ea => Category.admits .memalt .l ea && EA.wf .l ea
  | .divs ea _ => Category.admits .data .w ea && EA.wf .w ea
  | .subEaDnB ea _ => Category.admits .all .b ea && EA.wf .b ea
  | .subEaDnW ea _ => Category.admits .all .w ea && EA.wf .w ea
  | .subEaDnL ea _ => Category.admits .all .l ea && EA.wf .l ea
  | .subaW ea _ => Category.admits .all .w ea && EA.wf .w ea
  | .subxB _ _ _ => true
  | .subxW _ _ _ => true
  | .subxL _ _ _ => true
  | .subDnEaB _ ea => Category.admits .memalt .b ea && EA.wf .b ea
  | .subDnEaW _ ea => Category.admits .memalt .w ea && EA.wf .w ea
  | .subDnEaL _ ea => Category.admits .memalt .l ea && EA.wf .l ea
  | .subaL ea _ => Category.admits .all .l ea && EA.wf .l ea
  | .cmpB ea _ => Category.admits .all .b ea && EA.wf .b ea
  | .cmpW ea _ => Category.admits .all .w ea && EA.wf .w ea
  | .cmpL ea _ => Category.admits .all .l ea && EA.wf .l ea
  | .cmpaW ea _ => Category.admits .all .w ea && EA.wf .w ea
  | .cmpmB _ _ => true
  | .cmpmW _ _ => true
  | .cmpmL _ _ => true
  | .eorB _ ea => Category.admits .dataalt .b ea && EA.wf .b ea
  | .eorW _ ea => Category.admits .dataalt .w ea && EA.wf .w ea
  | .eorL _ ea => Category.admits .dataalt .l ea && EA.wf .l ea
  | .cmpaL ea _ => Category.admits .all .l ea && EA.wf .l ea
  | .andEaDnB ea _ => Category.admits .data .b ea && EA.wf .b ea
  | .andEaDnW ea _ => Category.admits .data .w ea && EA.wf .w ea
  | .andEaDnL ea _ => Category.admits .data .l ea && EA.wf .l ea
  | .mulu ea _ => Category.admits .data .w ea && EA.wf .w ea
  | .abcd _ _ _ => true
  | .exgDD _ _ => true
  | .exgAA _ _ => true
  | .exgDA _ _ => true
  | .andDnEaB _ ea => Category.admits .memalt .b ea && EA.wf .b ea
  | .andDnEaW _ ea => Category.admits .memalt .w ea && EA.wf .w ea
  | .andDnEaL _ ea => Category.admits .memalt .l ea && EA.wf .l ea
  | .muls ea _ => Category.admits .data .w ea && EA.wf .w ea
  | .addEaDnB ea _ => Category.admits .all .b ea && EA.wf .b ea
  | .addEaDnW ea _ => Category.admits .all .w ea && EA.wf .w ea
  | .addEaDnL ea _ => Category.admits .all .l ea && EA.wf .l ea
  | .addaW ea _ => Category.admits .all .w ea && EA.wf .w ea
  | .addxB _ _ _ => true
  | .addxW _ _ _ => true
  | .addxL _ _ _ => true
  | .addDnEaB _ ea => Category.admits .memalt .b ea && EA.wf .b ea
  | .addDnEaW _ ea => Category.admits .memalt .w ea && EA.wf .w ea
  | .addDnEaL _ ea => Category.admits .memalt .l ea && EA.wf .l ea
  | .addaL ea _ => Category.admits .all .l ea && EA.wf .l ea
  | .asrRegB _ _ => true
  | .asrRegW _ _ => true
  | .asrRegL _ _ => true
  | .aslRegB _ _ => true
  | .aslRegW _ _ => true
  | .aslRegL _ _ => true
  | .lsrRegB _ _ => true
  | .lsrRegW _ _ => true
  | .lsrRegL _ _ => true
  | .lslRegB _ _ => true
  | .lslRegW _ _ => true
  | .lslRegL _ _ => true
  | .roxrRegB _ _ => true
  | .roxrRegW _ _ => true
  | .roxrRegL _ _ => true
  | .roxlRegB _ _ => true
  | .roxlRegW _ _ => true
  | .roxlRegL _ _ => true
  | .rorRegB _ _ => true
  | .rorRegW _ _ => true
  | .rorRegL _ _ => true
  | .rolRegB _ _ => true
  | .rolRegW _ _ => true
  | .rolRegL _ _ => true
  | .asrMem ea => Category.admits .memalt .w ea && EA.wf .w ea
  | .aslMem ea => Category.admits .memalt .w ea && EA.wf .w ea
  | .lsrMem ea => Category.admits .memalt .w ea && EA.wf .w ea
  | .lslMem ea => Category.admits .memalt .w ea && EA.wf .w ea
  | .roxrMem ea => Category.admits .memalt .w ea && EA.wf .w ea
  | .roxlMem ea => Category.admits .memalt .w ea && EA.wf .w ea
  | .rorMem ea => Category.admits .memalt .w ea && EA.wf .w ea
  | .rolMem ea => Category.admits .memalt .w ea && EA.wf .w ea
  | .linea low => !band.contains (0xA#4 ++ low)
  | .linef low => !band.contains (0xF#4 ++ low)
  | .illegalFiller w => fillerWord w && !band.contains w

/-- The constraint of D12 on the band: it lies below 2^16, holds its sentinel, and none of its words
is claimed by an instruction row. -/
def HostBand.wf (band : HostBand) : Bool :=
  decide (band.base + band.count ≤ 0x10000) && band.contains band.stop
  && (List.range band.count).all (fun k => !rowClaims (band.base + k))

/-- The constraints of R393, R395 and D15 on an entry of `FP_OPS`: its opcode lies in the band and is
not the sentinel. -/
def FpOp.wf (band : HostBand) (op : FpOp) : Bool :=
  band.contains op.opcode && decide (op.opcode ≠ band.stop)

/-- The constraints R6 (with D2, D7, D12, D15) sets on a configuration. -/
def Config.wf (c : Config) : Bool :=
  (List.range 33).any (fun k => decide (1 ≤ k) && decide (c.cutoffMask.toNat = 2 ^ k - 1))
  && decide (0 < c.ramSize)
  && decide (c.ramSize + c.linkageLength ≤ c.screenStart)
  && decide (c.screenStart ≤ c.screenStop)
  && decide (c.screenStop ≤ c.totalRamSize)
  && decide (c.totalRamSize ≤ c.totalMemSize)
  && decide (c.totalMemSize ≤ c.cutoffMask.toNat + 1)
  && decide (c.ramSize % 2 = 0) && decide (c.linkageLength % 2 = 0)
  && decide (c.screenStart % 2 = 0) && decide (c.screenStop % 2 = 0)
  && decide (c.totalRamSize % 2 = 0) && decide (c.totalMemSize % 2 = 0)
  && decide (c.extIntVector < 256)
  && decide (c.intLevel ≠ 0#3)
  && c.band.wf
  && c.fpOps.all (fun op => op.wf c.band)
  && decide (c.fpOps.Pairwise (fun p q => p.opcode ≠ q.opcode))
  && decide (c.fpPtrReg ≠ 7)
  && decide (0x3ED ≤ c.fpExpLo) && decide (c.fpExpLo ≤ c.fpExpHi) && decide (c.fpExpHi ≤ 0xBFF)

end Sys2Proof
end

