-- ==== Sys2Proof/Decode.lean ====
section
/-! DEFINITION. The decoder and, after it, the encoder (spec/30_encoding.md R101 to R119).

`decodeWord` is the dispatch table of R113: it is total on all opcode words. It takes the words that
follow the opcode word as well and reads from them the extension words the instruction has, so that an
`Instr` holds all its operands; `decode` is the same on bytes and refuses, by name, a list that ends
before the instruction does. -/

namespace Sys2Proof

/-- The fields of an opcode word: bits 15-12, 11-9, 8-6, 5-3 and 2-0 (R101, R104). -/
structure Fields where
  g  : BitVec 4
  f9 : BitVec 3
  f6 : BitVec 3
  m  : BitVec 3
  r  : BitVec 3
deriving DecidableEq, Repr

/-- Take an opcode word apart (R104). -/
def fields (w : Word) : Fields where
  g  := w.extractLsb' 12 4
  f9 := w.extractLsb' 9 3
  f6 := w.extractLsb' 6 3
  m  := w.extractLsb' 3 3
  r  := w.extractLsb' 0 3

/-- The k-th of the words after the opcode word. -/
def extAt (ext : List Word) (k : Nat) : Word := ext.getD k 0#16

/-- A long in two extension words, high word first (R106, R107). -/
def extLongAt (ext : List Word) (k : Nat) : Long := extAt ext k ++ extAt ext (k + 1)

/-- A byte in one extension word: its low 8 bits (R107). -/
def extByteAt (ext : List Word) (k : Nat) : Byte := (extAt ext k).setWidth 8

/-- The brief extension word (R105); bits 10 to 8 are ignored (R117). -/
def Brief.ofWord (w : Word) : Brief where
  isAddr := w.getLsbD 15
  xreg   := (w.extractLsb' 12 3).toFin
  isLong := w.getLsbD 11
  disp   := w.setWidth 8

/-- The value of an immediate operand (R107, R172). -/
def immediateAt (sz : Size) (ext : List Word) (k : Nat) : Long :=
  match sz with
  | .b => (extByteAt ext k).setWidth 32
  | .w => (extAt ext k).setWidth 32
  | .l => extLongAt ext k

/-- The addressing mode of a `mode` and a `reg` field, with its extension words (R102, R105 to R107);
`none` for mode 111 with register 5, 6, 7, which does not exist (R173). -/
def parseEA (sz : Size) (m r : BitVec 3) (ext : List Word) : Option EA :=
  match m with
  | 0#3 => some (.dn r.toFin)
  | 1#3 => some (.an r.toFin)
  | 2#3 => some (.ind r.toFin)
  | 3#3 => some (.postInc r.toFin)
  | 4#3 => some (.preDec r.toFin)
  | 5#3 => some (.disp r.toFin (extAt ext 0))
  | 6#3 => some (.index r.toFin (Brief.ofWord (extAt ext 0)))
  | _ =>
    match r with
    | 0#3 => some (.absW (extAt ext 0))
    | 1#3 => some (.absL (extLongAt ext 0))
    | 2#3 => some (.pcDisp (extAt ext 0))
    | 3#3 => some (.pcIndex (Brief.ofWord (extAt ext 0)))
    | 4#3 => some (.imm (immediateAt sz ext 0))
    | _ => none

/-- The number of extension words of an addressing mode (R102, R181). -/
def EA.words (ea : EA) (sz : Size) : Nat :=
  match ea with
  | .dn _ | .an _ | .ind _ | .postInc _ | .preDec _ => 0
  | .disp _ _ | .index _ _ | .absW _ | .pcDisp _ | .pcIndex _ => 1
  | .absL _ => 2
  | .imm _ => if sz = .l then 2 else 1

/-- The number of extension words of a branch displacement (R109). -/
def BranchDisp.words : BranchDisp → Nat
  | .short _ => 0
  | .word _ => 1

/-- An instruction with one effective address of a category, or the filler (R111, R114). -/
def withEA (c : Category) (sz : Size) (w : Word) (f : Fields) (ext : List Word) (k : EA → Instr) :
    Instr :=
  match parseEA sz f.m f.r ext with
  | some ea => if c.admits sz ea then k ea else .illegalFiller w
  | none => .illegalFiller w

/-- The sizes of the two-bit field `SZ` (R103): bits 1-0 of `f6`. -/
def sizeOf (f6 : BitVec 3) : Option Size :=
  match f6 with
  | 0#3 | 4#3 => some .b
  | 1#3 | 5#3 => some .w
  | 2#3 | 6#3 => some .l
  | _ => none

/-- The two operand forms of `RX_RY` (R104): bits 5-4 zero, bit 3 the form. -/
def rxFormOf (m : BitVec 3) : Option RxForm :=
  match m with
  | 0#3 => some .dreg
  | 1#3 => some .predec
  | _ => none

/-- The displacement of a branch (R109). -/
def branchDispOf (w : Word) (ext : List Word) : BranchDisp :=
  if w.setWidth 8 = 0#8 then .word (extAt ext 0) else .short (w.setWidth 8)

/-- The three immediate instructions of a size, with the immediate before the effective address. -/
def immediateRow (w : Word) (f : Fields) (ext : List Word)
    (kb : Byte → EA → Instr) (kw : Word → EA → Instr) (kl : Long → EA → Instr) : Instr :=
  match f.f6 with
  | 0#3 => withEA .dataalt .b w f (ext.drop 1) (kb (extByteAt ext 0))
  | 1#3 => withEA .dataalt .w w f (ext.drop 1) (kw (extAt ext 0))
  | 2#3 => withEA .dataalt .l w f (ext.drop 2) (kl (extLongAt ext 0))
  | _ => .illegalFiller w

/-- Group 0, bit 8 clear: immediates, the CCR and SR forms, static bit instructions. -/
def decode0Static (w : Word) (f : Fields) (ext : List Word) : Instr :=
  match f.f9 with
  | 0#3 =>
    if w = 0x003C#16 then .oriToCcr (extByteAt ext 0)
    else if w = 0x007C#16 then .oriToSr (extAt ext 0)
    else immediateRow w f ext .oriB .oriW .oriL
  | 1#3 =>
    if w = 0x023C#16 then .andiToCcr (extByteAt ext 0)
    else if w = 0x027C#16 then .andiToSr (extAt ext 0)
    else immediateRow w f ext .andiB .andiW .andiL
  | 2#3 => immediateRow w f ext .subiB .subiW .subiL
  | 3#3 => immediateRow w f ext .addiB .addiW .addiL
  | 4#3 =>
    match f.f6 with
    | 0#3 => withEA .dataNoImm .b w f (ext.drop 1) (.btstImm (extByteAt ext 0))
    | 1#3 => withEA .dataalt .b w f (ext.drop 1) (.bchgImm (extByteAt ext 0))
    | 2#3 => withEA .dataalt .b w f (ext.drop 1) (.bclrImm (extByteAt ext 0))
    | 3#3 => withEA .dataalt .b w f (ext.drop 1) (.bsetImm (extByteAt ext 0))
    | _ => .illegalFiller w
  | 5#3 =>
    if w = 0x0A3C#16 then .eoriToCcr (extByteAt ext 0)
    else if w = 0x0A7C#16 then .eoriToSr (extAt ext 0)
    else immediateRow w f ext .eoriB .eoriW .eoriL
  | 6#3 => immediateRow w f ext .cmpiB .cmpiW .cmpiL
  | _ => .illegalFiller w

/-- Group 0 (R112): bit 8 set is MOVEP where the mode is 001, else a dynamic bit instruction. -/
def decode0 (w : Word) (f : Fields) (ext : List Word) : Instr :=
  match f.f6 with
  | 4#3 =>
    if f.m = 1#3 then .movepLoadW f.f9.toFin f.r.toFin (extAt ext 0)
    else withEA .data .b w f ext (.btstReg f.f9.toFin)
  | 5#3 =>
    if f.m = 1#3 then .movepLoadL f.f9.toFin f.r.toFin (extAt ext 0)
    else withEA .dataalt .b w f ext (.bchgReg f.f9.toFin)
  | 6#3 =>
    if f.m = 1#3 then .movepStoreW f.f9.toFin f.r.toFin (extAt ext 0)
    else withEA .dataalt .b w f ext (.bclrReg f.f9.toFin)
  | 7#3 =>
    if f.m = 1#3 then .movepStoreL f.f9.toFin f.r.toFin (extAt ext 0)
    else withEA .dataalt .b w f ext (.bsetReg f.f9.toFin)
  | _ => decode0Static w f ext

/-- Groups 1, 2, 3 (R112): MOVE of a size; the destination's words follow the source's (R108). -/
def decodeMove (sz : Size) (w : Word) (f : Fields) (ext : List Word) (k : EA → EA → Instr) : Instr :=
  withEA .all sz w f ext (fun src =>
    match parseEA sz f.f6 f.f9 (ext.drop (src.words sz)) with
    | some dst => if Category.admits .dataalt sz dst then k src dst else .illegalFiller w
    | none => .illegalFiller w)

/-- Group 4 with bits 8-6 = 0 to 3 and bits 11-9 = 7: traps, LINK, USP, JSR, JMP and the rest. -/
def decode4E (w : Word) (f : Fields) (ext : List Word) : Instr :=
  match f.f6 with
  | 1#3 =>
    match f.m with
    | 0#3 | 1#3 => .trap (w.setWidth 4)
    | 2#3 => .link f.r.toFin (extAt ext 0)
    | 3#3 => .unlk f.r.toFin
    | 4#3 => .moveToUsp f.r.toFin
    | 5#3 => .moveFromUsp f.r.toFin
    | 6#3 =>
      match f.r with
      | 0#3 => .reset
      | 1#3 => .nop
      | 2#3 => .stop (extAt ext 0)
      | 3#3 => .rte
      | 5#3 => .rts
      | 6#3 => .trapv
      | 7#3 => .rtr
      | _ => .illegalFiller w
    | _ => .illegalFiller w
  | 2#3 => withEA .control .l w f ext .jsr
  | 3#3 => withEA .control .l w f ext .jmp
  | _ => .illegalFiller w

/-- Group 4 (R112). -/
def decode4 (w : Word) (f : Fields) (ext : List Word) : Instr :=
  match f.f6 with
  | 6#3 => withEA .data .w w f ext (fun ea => .chk ea f.f9.toFin)
  | 7#3 => withEA .control .l w f ext (fun ea => .lea ea f.f9.toFin)
  | 4#3 | 5#3 => .illegalFiller w
  | _ =>
    match f.f9, f.f6 with
    | 0#3, 0#3 => withEA .dataalt .b w f ext .negxB
    | 0#3, 1#3 => withEA .dataalt .w w f ext .negxW
    | 0#3, 2#3 => withEA .dataalt .l w f ext .negxL
    | 0#3, _   => withEA .dataalt .w w f ext .moveFromSr
    | 1#3, 0#3 => withEA .dataalt .b w f ext .clrB
    | 1#3, 1#3 => withEA .dataalt .w w f ext .clrW
    | 1#3, 2#3 => withEA .dataalt .l w f ext .clrL
    | 2#3, 0#3 => withEA .dataalt .b w f ext .negB
    | 2#3, 1#3 => withEA .dataalt .w w f ext .negW
    | 2#3, 2#3 => withEA .dataalt .l w f ext .negL
    | 2#3, _   => withEA .data .w w f ext .moveToCcr
    | 3#3, 0#3 => withEA .dataalt .b w f ext .notB
    | 3#3, 1#3 => withEA .dataalt .w w f ext .notW
    | 3#3, 2#3 => withEA .dataalt .l w f ext .notL
    | 3#3, _   => withEA .data .w w f ext .moveToSr
    | 4#3, 0#3 => withEA .dataalt .b w f ext .nbcd
    | 4#3, 1#3 => if f.m = 0#3 then .swap f.r.toFin else withEA .control .l w f ext .pea
    | 4#3, 2#3 =>
      if f.m = 0#3 then .extW f.r.toFin
      else withEA .ctlaltPredec .w w f (ext.drop 1) (.movemStoreW (extAt ext 0))
    | 4#3, 3#3 =>
      if f.m = 0#3 then .extL f.r.toFin
      else withEA .ctlaltPredec .l w f (ext.drop 1) (.movemStoreL (extAt ext 0))
    | 5#3, 0#3 => withEA .dataalt .b w f ext .tstB
    | 5#3, 1#3 => withEA .dataalt .w w f ext .tstW
    | 5#3, 2#3 => withEA .dataalt .l w f ext .tstL
    | 5#3, _   => if w = 0x4AFC#16 then .illegal else withEA .dataalt .b w f ext .tas
    | 6#3, 2#3 => withEA .controlPostinc .w w f (ext.drop 1) (.movemLoadW (extAt ext 0))
    | 6#3, 3#3 => withEA .controlPostinc .l w f (ext.drop 1) (.movemLoadL (extAt ext 0))
    | 7#3, _ => decode4E w f ext
    | _, _ => .illegalFiller w

/-- The condition field of group 5 and 6 words: bits 11-8. -/
def condField (w : Word) : BitVec 4 := w.extractLsb' 8 4

/-- Scc of a condition field (R112). -/
def sccOf (cc : BitVec 4) (ea : EA) : Instr :=
  match cc with
  | 0#4 => .st ea
  | 1#4 => .sf ea
  | 2#4 => .shi ea
  | 3#4 => .sls ea
  | 4#4 => .scc ea
  | 5#4 => .scs ea
  | 6#4 => .sne ea
  | 7#4 => .seq ea
  | 8#4 => .svc ea
  | 9#4 => .svs ea
  | 10#4 => .spl ea
  | 11#4 => .smi ea
  | 12#4 => .sge ea
  | 13#4 => .slt ea
  | 14#4 => .sgt ea
  | _ => .sle ea

/-- DBcc of a condition field (R112). -/
def dbccOf (cc : BitVec 4) (dn : RegNo) (disp : Word) : Instr :=
  match cc with
  | 0#4 => .dbt dn disp
  | 1#4 => .dbf dn disp
  | 2#4 => .dbhi dn disp
  | 3#4 => .dbls dn disp
  | 4#4 => .dbcc dn disp
  | 5#4 => .dbcs dn disp
  | 6#4 => .dbne dn disp
  | 7#4 => .dbeq dn disp
  | 8#4 => .dbvc dn disp
  | 9#4 => .dbvs dn disp
  | 10#4 => .dbpl dn disp
  | 11#4 => .dbmi dn disp
  | 12#4 => .dbge dn disp
  | 13#4 => .dblt dn disp
  | 14#4 => .dbgt dn disp
  | _ => .dble dn disp

/-- Group 5 (R112). -/
def decode5 (w : Word) (f : Fields) (ext : List Word) : Instr :=
  match f.f6 with
  | 0#3 => withEA .alt .b w f ext (.addqB f.f9)
  | 1#3 => withEA .alt .w w f ext (.addqW f.f9)
  | 2#3 => withEA .alt .l w f ext (.addqL f.f9)
  | 4#3 => withEA .alt .b w f ext (.subqB f.f9)
  | 5#3 => withEA .alt .w w f ext (.subqW f.f9)
  | 6#3 => withEA .alt .l w f ext (.subqL f.f9)
  | _ =>
    if f.m = 1#3 then dbccOf (condField w) f.r.toFin (extAt ext 0)
    else withEA .dataalt .b w f ext (sccOf (condField w))

/-- Group 6 (R112): BRA, BSR and Bcc. -/
def decode6 (w : Word) (ext : List Word) : Instr :=
  match condField w with
  | 0#4 => .bra (branchDispOf w ext)
  | 1#4 => .bsr (branchDispOf w ext)
  | 2#4 => .bhi (branchDispOf w ext)
  | 3#4 => .bls (branchDispOf w ext)
  | 4#4 => .bcc (branchDispOf w ext)
  | 5#4 => .bcs (branchDispOf w ext)
  | 6#4 => .bne (branchDispOf w ext)
  | 7#4 => .beq (branchDispOf w ext)
  | 8#4 => .bvc (branchDispOf w ext)
  | 9#4 => .bvs (branchDispOf w ext)
  | 10#4 => .bpl (branchDispOf w ext)
  | 11#4 => .bmi (branchDispOf w ext)
  | 12#4 => .bge (branchDispOf w ext)
  | 13#4 => .blt (branchDispOf w ext)
  | 14#4 => .bgt (branchDispOf w ext)
  | _ => .ble (branchDispOf w ext)

/-- Group 7 (R112): MOVEQ, with bit 8 clear. -/
def decode7 (w : Word) (f : Fields) : Instr :=
  if w.getLsbD 8 then .illegalFiller w else .moveq f.f9.toFin (w.setWidth 8)

/-- Group 8 (R112): OR, DIVU, DIVS, SBCD. -/
def decode8 (w : Word) (f : Fields) (ext : List Word) : Instr :=
  match f.f6 with
  | 0#3 => withEA .data .b w f ext (fun ea => .orEaDnB ea f.f9.toFin)
  | 1#3 => withEA .data .w w f ext (fun ea => .orEaDnW ea f.f9.toFin)
  | 2#3 => withEA .data .l w f ext (fun ea => .orEaDnL ea f.f9.toFin)
  | 3#3 => withEA .data .w w f ext (fun ea => .divu ea f.f9.toFin)
  | 4#3 =>
    match rxFormOf f.m with
    | some form => .sbcd form f.r.toFin f.f9.toFin
    | none => withEA .memalt .b w f ext (.orDnEaB f.f9.toFin)
  | 5#3 => withEA .memalt .w w f ext (.orDnEaW f.f9.toFin)
  | 6#3 => withEA .memalt .l w f ext (.orDnEaL f.f9.toFin)
  | _ => withEA .data .w w f ext (fun ea => .divs ea f.f9.toFin)

/-- Group 9 (R112): SUB, SUBA, SUBX. -/
def decode9 (w : Word) (f : Fields) (ext : List Word) : Instr :=
  match f.f6 with
  | 0#3 => withEA .all .b w f ext (fun ea => .subEaDnB ea f.f9.toFin)
  | 1#3 => withEA .all .w w f ext (fun ea => .subEaDnW ea f.f9.toFin)
  | 2#3 => withEA .all .l w f ext (fun ea => .subEaDnL ea f.f9.toFin)
  | 3#3 => withEA .all .w w f ext (fun ea => .subaW ea f.f9.toFin)
  | 4#3 =>
    match rxFormOf f.m with
    | some form => .subxB form f.r.toFin f.f9.toFin
    | none => withEA .memalt .b w f ext (.subDnEaB f.f9.toFin)
  | 5#3 =>
    match rxFormOf f.m with
    | some form => .subxW form f.r.toFin f.f9.toFin
    | none => withEA .memalt .w w f ext (.subDnEaW f.f9.toFin)
  | 6#3 =>
    match rxFormOf f.m with
    | some form => .subxL form f.r.toFin f.f9.toFin
    | none => withEA .memalt .l w f ext (.subDnEaL f.f9.toFin)
  | _ => withEA .all .l w f ext (fun ea => .subaL ea f.f9.toFin)

/-- Group B (R112): CMP, CMPA, CMPM, EOR. -/
def decodeB (w : Word) (f : Fields) (ext : List Word) : Instr :=
  match f.f6 with
  | 0#3 => withEA .all .b w f ext (fun ea => .cmpB ea f.f9.toFin)
  | 1#3 => withEA .all .w w f ext (fun ea => .cmpW ea f.f9.toFin)
  | 2#3 => withEA .all .l w f ext (fun ea => .cmpL ea f.f9.toFin)
  | 3#3 => withEA .all .w w f ext (fun ea => .cmpaW ea f.f9.toFin)
  | 4#3 =>
    if f.m = 1#3 then .cmpmB f.r.toFin f.f9.toFin
    else withEA .dataalt .b w f ext (.eorB f.f9.toFin)
  | 5#3 =>
    if f.m = 1#3 then .cmpmW f.r.toFin f.f9.toFin
    else withEA .dataalt .w w f ext (.eorW f.f9.toFin)
  | 6#3 =>
    if f.m = 1#3 then .cmpmL f.r.toFin f.f9.toFin
    else withEA .dataalt .l w f ext (.eorL f.f9.toFin)
  | _ => withEA .all .l w f ext (fun ea => .cmpaL ea f.f9.toFin)

/-- Group C (R112): AND, MULU, MULS, ABCD, EXG. -/
def decodeC (w : Word) (f : Fields) (ext : List Word) : Instr :=
  match f.f6 with
  | 0#3 => withEA .data .b w f ext (fun ea => .andEaDnB ea f.f9.toFin)
  | 1#3 => withEA .data .w w f ext (fun ea => .andEaDnW ea f.f9.toFin)
  | 2#3 => withEA .data .l w f ext (fun ea => .andEaDnL ea f.f9.toFin)
  | 3#3 => withEA .data .w w f ext (fun ea => .mulu ea f.f9.toFin)
  | 4#3 =>
    match rxFormOf f.m with
    | some form => .abcd form f.r.toFin f.f9.toFin
    | none => withEA .memalt .b w f ext (.andDnEaB f.f9.toFin)
  | 5#3 =>
    match f.m with
    | 0#3 => .exgDD f.f9.toFin f.r.toFin
    | 1#3 => .exgAA f.f9.toFin f.r.toFin
    | _ => withEA .memalt .w w f ext (.andDnEaW f.f9.toFin)
  | 6#3 =>
    if f.m = 1#3 then .exgDA f.f9.toFin f.r.toFin
    else withEA .memalt .l w f ext (.andDnEaL f.f9.toFin)
  | _ => withEA .data .w w f ext (fun ea => .muls ea f.f9.toFin)

/-- Group D (R112): ADD, ADDA, ADDX. -/
def decodeD (w : Word) (f : Fields) (ext : List Word) : Instr :=
  match f.f6 with
  | 0#3 => withEA .all .b w f ext (fun ea => .addEaDnB ea f.f9.toFin)
  | 1#3 => withEA .all .w w f ext (fun ea => .addEaDnW ea f.f9.toFin)
  | 2#3 => withEA .all .l w f ext (fun ea => .addEaDnL ea f.f9.toFin)
  | 3#3 => withEA .all .w w f ext (fun ea => .addaW ea f.f9.toFin)
  | 4#3 =>
    match rxFormOf f.m with
    | some form => .addxB form f.r.toFin f.f9.toFin
    | none => withEA .memalt .b w f ext (.addDnEaB f.f9.toFin)
  | 5#3 =>
    match rxFormOf f.m with
    | some form => .addxW form f.r.toFin f.f9.toFin
    | none => withEA .memalt .w w f ext (.addDnEaW f.f9.toFin)
  | 6#3 =>
    match rxFormOf f.m with
    | some form => .addxL form f.r.toFin f.f9.toFin
    | none => withEA .memalt .l w f ext (.addDnEaL f.f9.toFin)
  | _ => withEA .all .l w f ext (fun ea => .addaL ea f.f9.toFin)

/-- The count of a register-form shift: bit 5 is `ir` (R291). -/
def shiftCountOf (f : Fields) : ShiftCount :=
  if f.m.getLsbD 2 then .reg f.f9.toFin else .imm f.f9

/-- Group E (R112): the shifts. `type` is bits 4-3 of the register form, bits 10-9 of the memory form. -/
def decodeE (w : Word) (f : Fields) (ext : List Word) : Instr :=
  match f.f6 with
  | 3#3 =>
    match f.f9 with
    | 0#3 => withEA .memalt .w w f ext .asrMem
    | 1#3 => withEA .memalt .w w f ext .lsrMem
    | 2#3 => withEA .memalt .w w f ext .roxrMem
    | 3#3 => withEA .memalt .w w f ext .rorMem
    | _ => .illegalFiller w
  | 7#3 =>
    match f.f9 with
    | 0#3 => withEA .memalt .w w f ext .aslMem
    | 1#3 => withEA .memalt .w w f ext .lslMem
    | 2#3 => withEA .memalt .w w f ext .roxlMem
    | 3#3 => withEA .memalt .w w f ext .rolMem
    | _ => .illegalFiller w
  | _ =>
    match f.m.setWidth 2, f.f6 with
    | 0#2, 0#3 => .asrRegB (shiftCountOf f) f.r.toFin
    | 0#2, 1#3 => .asrRegW (shiftCountOf f) f.r.toFin
    | 0#2, 2#3 => .asrRegL (shiftCountOf f) f.r.toFin
    | 0#2, 4#3 => .aslRegB (shiftCountOf f) f.r.toFin
    | 0#2, 5#3 => .aslRegW (shiftCountOf f) f.r.toFin
    | 0#2, _   => .aslRegL (shiftCountOf f) f.r.toFin
    | 1#2, 0#3 => .lsrRegB (shiftCountOf f) f.r.toFin
    | 1#2, 1#3 => .lsrRegW (shiftCountOf f) f.r.toFin
    | 1#2, 2#3 => .lsrRegL (shiftCountOf f) f.r.toFin
    | 1#2, 4#3 => .lslRegB (shiftCountOf f) f.r.toFin
    | 1#2, 5#3 => .lslRegW (shiftCountOf f) f.r.toFin
    | 1#2, _   => .lslRegL (shiftCountOf f) f.r.toFin
    | 2#2, 0#3 => .roxrRegB (shiftCountOf f) f.r.toFin
    | 2#2, 1#3 => .roxrRegW (shiftCountOf f) f.r.toFin
    | 2#2, 2#3 => .roxrRegL (shiftCountOf f) f.r.toFin
    | 2#2, 4#3 => .roxlRegB (shiftCountOf f) f.r.toFin
    | 2#2, 5#3 => .roxlRegW (shiftCountOf f) f.r.toFin
    | 2#2, _   => .roxlRegL (shiftCountOf f) f.r.toFin
    | _, 0#3 => .rorRegB (shiftCountOf f) f.r.toFin
    | _, 1#3 => .rorRegW (shiftCountOf f) f.r.toFin
    | _, 2#3 => .rorRegL (shiftCountOf f) f.r.toFin
    | _, 4#3 => .rolRegB (shiftCountOf f) f.r.toFin
    | _, 5#3 => .rolRegW (shiftCountOf f) f.r.toFin
    | _, _   => .rolRegL (shiftCountOf f) f.r.toFin

/-- The decoder on words: the host band first, then the rows of R112, then the lines A and F, then the
filler (R113). -/
def decodeWord (band : HostBand) (w : Word) (ext : List Word) : Instr :=
  if band.contains w then .hosttrap w
  else
    match (fields w).g with
    | 0#4 => decode0 w (fields w) ext
    | 1#4 => decodeMove .b w (fields w) ext .moveB
    | 2#4 =>
      if (fields w).f6 = 1#3 then withEA .all .l w (fields w) ext (fun src => .moveaL src (fields w).f9.toFin)
      else decodeMove .l w (fields w) ext .moveL
    | 3#4 =>
      if (fields w).f6 = 1#3 then withEA .all .w w (fields w) ext (fun src => .moveaW src (fields w).f9.toFin)
      else decodeMove .w w (fields w) ext .moveW
    | 4#4 => decode4 w (fields w) ext
    | 5#4 => decode5 w (fields w) ext
    | 6#4 => decode6 w ext
    | 7#4 => decode7 w (fields w)
    | 8#4 => decode8 w (fields w) ext
    | 9#4 => decode9 w (fields w) ext
    | 10#4 => .linea (w.setWidth 12)
    | 11#4 => decodeB w (fields w) ext
    | 12#4 => decodeC w (fields w) ext
    | 13#4 => decodeD w (fields w) ext
    | 14#4 => decodeE w (fields w) ext
    | _ => .linef (w.setWidth 12)

/-- The number of words of an instruction (R119): one, its own extension words and those of its effective
addresses. -/
def Instr.length : Instr → Nat
  | .hosttrap _ => 1
  | .oriToCcr _ => 2
  | .oriToSr _ => 2
  | .oriB _ ea => 2 + ea.words .b
  | .oriW _ ea => 2 + ea.words .w
  | .oriL _ ea => 3 + ea.words .l
  | .andiToCcr _ => 2
  | .andiToSr _ => 2
  | .andiB _ ea => 2 + ea.words .b
  | .andiW _ ea => 2 + ea.words .w
  | .andiL _ ea => 3 + ea.words .l
  | .subiB _ ea => 2 + ea.words .b
  | .subiW _ ea => 2 + ea.words .w
  | .subiL _ ea => 3 + ea.words .l
  | .addiB _ ea => 2 + ea.words .b
  | .addiW _ ea => 2 + ea.words .w
  | .addiL _ ea => 3 + ea.words .l
  | .btstImm _ ea => 2 + ea.words .b
  | .bchgImm _ ea => 2 + ea.words .b
  | .bclrImm _ ea => 2 + ea.words .b
  | .bsetImm _ ea => 2 + ea.words .b
  | .eoriToCcr _ => 2
  | .eoriToSr _ => 2
  | .eoriB _ ea => 2 + ea.words .b
  | .eoriW _ ea => 2 + ea.words .w
  | .eoriL _ ea => 3 + ea.words .l
  | .cmpiB _ ea => 2 + ea.words .b
  | .cmpiW _ ea => 2 + ea.words .w
  | .cmpiL _ ea => 3 + ea.words .l
  | .btstReg _ ea => 1 + ea.words .b
  | .bchgReg _ ea => 1 + ea.words .b
  | .bclrReg _ ea => 1 + ea.words .b
  | .bsetReg _ ea => 1 + ea.words .b
  | .movepLoadW _ _ _ => 2
  | .movepLoadL _ _ _ => 2
  | .movepStoreW _ _ _ => 2
  | .movepStoreL _ _ _ => 2
  | .moveB src dst => 1 + src.words .b + dst.words .b
  | .moveL src dst => 1 + src.words .l + dst.words .l
  | .moveaL src _ => 1 + src.words .l
  | .moveW src dst => 1 + src.words .w + dst.words .w
  | .moveaW src _ => 1 + src.words .w
  | .negxB ea => 1 + ea.words .b
  | .negxW ea => 1 + ea.words .w
  | .negxL ea => 1 + ea.words .l
  | .moveFromSr ea => 1 + ea.words .w
  | .chk ea _ => 1 + ea.words .w
  | .lea ea _ => 1 + ea.words .l
  | .clrB ea => 1 + ea.words .b
  | .clrW ea => 1 + ea.words .w
  | .clrL ea => 1 + ea.words .l
  | .negB ea => 1 + ea.words .b
  | .negW ea => 1 + ea.words .w
  | .negL ea => 1 + ea.words .l
  | .moveToCcr ea => 1 + ea.words .w
  | .notB ea => 1 + ea.words .b
  | .notW ea => 1 + ea.words .w
  | .notL ea => 1 + ea.words .l
  | .moveToSr ea => 1 + ea.words .w
  | .nbcd ea => 1 + ea.words .b
  | .swap _ => 1
  | .pea ea => 1 + ea.words .l
  | .extW _ => 1
  | .extL _ => 1
  | .movemStoreW _ ea => 2 + ea.words .w
  | .movemStoreL _ ea => 2 + ea.words .l
  | .movemLoadW _ ea => 2 + ea.words .w
  | .movemLoadL _ ea => 2 + ea.words .l
  | .tstB ea => 1 + ea.words .b
  | .tstW ea => 1 + ea.words .w
  | .tstL ea => 1 + ea.words .l
  | .tas ea => 1 + ea.words .b
  | .illegal => 1
  | .trap _ => 1
  | .link _ _ => 2
  | .unlk _ => 1
  | .moveToUsp _ => 1
  | .moveFromUsp _ => 1
  | .reset => 1
  | .nop => 1
  | .stop _ => 2
  | .rte => 1
  | .rts => 1
  | .trapv => 1
  | .rtr => 1
  | .jsr ea => 1 + ea.words .l
  | .jmp ea => 1 + ea.words .l
  | .addqB _ ea => 1 + ea.words .b
  | .addqW _ ea => 1 + ea.words .w
  | .addqL _ ea => 1 + ea.words .l
  | .subqB _ ea => 1 + ea.words .b
  | .subqW _ ea => 1 + ea.words .w
  | .subqL _ ea => 1 + ea.words .l
  | .st ea => 1 + ea.words .b
  | .sf ea => 1 + ea.words .b
  | .shi ea => 1 + ea.words .b
  | .sls ea => 1 + ea.words .b
  | .scc ea => 1 + ea.words .b
  | .scs ea => 1 + ea.words .b
  | .sne ea => 1 + ea.words .b
  | .seq ea => 1 + ea.words .b
  | .svc ea => 1 + ea.words .b
  | .svs ea => 1 + ea.words .b
  | .spl ea => 1 + ea.words .b
  | .smi ea => 1 + ea.words .b
  | .sge ea => 1 + ea.words .b
  | .slt ea => 1 + ea.words .b
  | .sgt ea => 1 + ea.words .b
  | .sle ea => 1 + ea.words .b
  | .dbt _ _ => 2
  | .dbf _ _ => 2
  | .dbhi _ _ => 2
  | .dbls _ _ => 2
  | .dbcc _ _ => 2
  | .dbcs _ _ => 2
  | .dbne _ _ => 2
  | .dbeq _ _ => 2
  | .dbvc _ _ => 2
  | .dbvs _ _ => 2
  | .dbpl _ _ => 2
  | .dbmi _ _ => 2
  | .dbge _ _ => 2
  | .dblt _ _ => 2
  | .dbgt _ _ => 2
  | .dble _ _ => 2
  | .bra d => 1 + d.words
  | .bsr d => 1 + d.words
  | .bhi d => 1 + d.words
  | .bls d => 1 + d.words
  | .bcc d => 1 + d.words
  | .bcs d => 1 + d.words
  | .bne d => 1 + d.words
  | .beq d => 1 + d.words
  | .bvc d => 1 + d.words
  | .bvs d => 1 + d.words
  | .bpl d => 1 + d.words
  | .bmi d => 1 + d.words
  | .bge d => 1 + d.words
  | .blt d => 1 + d.words
  | .bgt d => 1 + d.words
  | .ble d => 1 + d.words
  | .moveq _ _ => 1
  | .orEaDnB ea _ => 1 + ea.words .b
  | .orEaDnW ea _ => 1 + ea.words .w
  | .orEaDnL ea _ => 1 + ea.words .l
  | .divu ea _ => 1 + ea.words .w
  | .sbcd _ _ _ => 1
  | .orDnEaB _ ea => 1 + ea.words .b
  | .orDnEaW _ ea => 1 + ea.words .w
  | .orDnEaL _ ea => 1 + ea.words .l
  | .divs ea _ => 1 + ea.words .w
  | .subEaDnB ea _ => 1 + ea.words .b
  | .subEaDnW ea _ => 1 + ea.words .w
  | .subEaDnL ea _ => 1 + ea.words .l
  | .subaW ea _ => 1 + ea.words .w
  | .subxB _ _ _ => 1
  | .subxW _ _ _ => 1
  | .subxL _ _ _ => 1
  | .subDnEaB _ ea => 1 + ea.words .b
  | .subDnEaW _ ea => 1 + ea.words .w
  | .subDnEaL _ ea => 1 + ea.words .l
  | .subaL ea _ => 1 + ea.words .l
  | .cmpB ea _ => 1 + ea.words .b
  | .cmpW ea _ => 1 + ea.words .w
  | .cmpL ea _ => 1 + ea.words .l
  | .cmpaW ea _ => 1 + ea.words .w
  | .cmpmB _ _ => 1
  | .cmpmW _ _ => 1
  | .cmpmL _ _ => 1
  | .eorB _ ea => 1 + ea.words .b
  | .eorW _ ea => 1 + ea.words .w
  | .eorL _ ea => 1 + ea.words .l
  | .cmpaL ea _ => 1 + ea.words .l
  | .andEaDnB ea _ => 1 + ea.words .b
  | .andEaDnW ea _ => 1 + ea.words .w
  | .andEaDnL ea _ => 1 + ea.words .l
  | .mulu ea _ => 1 + ea.words .w
  | .abcd _ _ _ => 1
  | .exgDD _ _ => 1
  | .exgAA _ _ => 1
  | .exgDA _ _ => 1
  | .andDnEaB _ ea => 1 + ea.words .b
  | .andDnEaW _ ea => 1 + ea.words .w
  | .andDnEaL _ ea => 1 + ea.words .l
  | .muls ea _ => 1 + ea.words .w
  | .addEaDnB ea _ => 1 + ea.words .b
  | .addEaDnW ea _ => 1 + ea.words .w
  | .addEaDnL ea _ => 1 + ea.words .l
  | .addaW ea _ => 1 + ea.words .w
  | .addxB _ _ _ => 1
  | .addxW _ _ _ => 1
  | .addxL _ _ _ => 1
  | .addDnEaB _ ea => 1 + ea.words .b
  | .addDnEaW _ ea => 1 + ea.words .w
  | .addDnEaL _ ea => 1 + ea.words .l
  | .addaL ea _ => 1 + ea.words .l
  | .asrRegB _ _ => 1
  | .asrRegW _ _ => 1
  | .asrRegL _ _ => 1
  | .aslRegB _ _ => 1
  | .aslRegW _ _ => 1
  | .aslRegL _ _ => 1
  | .lsrRegB _ _ => 1
  | .lsrRegW _ _ => 1
  | .lsrRegL _ _ => 1
  | .lslRegB _ _ => 1
  | .lslRegW _ _ => 1
  | .lslRegL _ _ => 1
  | .roxrRegB _ _ => 1
  | .roxrRegW _ _ => 1
  | .roxrRegL _ _ => 1
  | .roxlRegB _ _ => 1
  | .roxlRegW _ _ => 1
  | .roxlRegL _ _ => 1
  | .rorRegB _ _ => 1
  | .rorRegW _ _ => 1
  | .rorRegL _ _ => 1
  | .rolRegB _ _ => 1
  | .rolRegW _ _ => 1
  | .rolRegL _ _ => 1
  | .asrMem ea => 1 + ea.words .w
  | .aslMem ea => 1 + ea.words .w
  | .lsrMem ea => 1 + ea.words .w
  | .lslMem ea => 1 + ea.words .w
  | .roxrMem ea => 1 + ea.words .w
  | .roxlMem ea => 1 + ea.words .w
  | .rorMem ea => 1 + ea.words .w
  | .rolMem ea => 1 + ea.words .w
  | .linea _ => 1
  | .linef _ => 1
  | .illegalFiller _ => 1

/-- Why a list of bytes is no instruction. Raised by `decode` alone (no fetch of the machine ends short,
R146). -/
inductive DecodeError where
  /-- The list ends before the instruction does. -/
  | truncated
deriving DecidableEq, Repr

/-- A word in its two bytes, the most significant first (R63). -/
def wordBytes (w : Word) : List Byte := [w.extractLsb' 8 8, w.extractLsb' 0 8]

/-- The words of a list of bytes, big-endian (R63); a last odd byte is no word. -/
def wordsOfBytes : List Byte → List Word
  | hi :: lo :: rest => (hi ++ lo) :: wordsOfBytes rest
  | _ => []

/-- The decoder on bytes: the instruction at the front of the list, and the rest of the list. -/
def decode (band : HostBand) (bytes : List Byte) : Except DecodeError (Instr × List Byte) :=
  match wordsOfBytes bytes with
  | [] => .error .truncated
  | w :: ext =>
    if (decodeWord band w ext).length ≤ ext.length + 1 then
      .ok (decodeWord band w ext, bytes.drop (2 * (decodeWord band w ext).length))
    else .error .truncated

/-- The number of words of the longest instruction (R119): two extension words for each of two operands. -/
def maxWords : Nat := 5

/-- The first `n` words of a number whose bits are numbered from the least significant bit of the first
word. -/
def tableWords (n w : Nat) : List Word :=
  match n with
  | 0 => []
  | k + 1 => BitVec.ofNat 16 w :: tableWords k (w / 2 ^ 16)

/-- The host's question of the decoder: the instruction whose bits are `w`, numbered as
spec/opcode_table.json numbers them, beside the host band of `Config.testT`. -/
def decodeTableWord (nbits w : Nat) : Option Instr :=
  match decode Config.testT.band ((tableWords maxWords (w % 2 ^ nbits)).flatMap wordBytes) with
  | .ok (i, _) => some i
  | .error _ => none

/-! The encoder. -/

/-- An opcode word from its fields (R104). -/
def pack (g : BitVec 4) (f9 f6 m r : BitVec 3) : Word := g ++ f9 ++ f6 ++ m ++ r

/-- A register number as a three-bit field. -/
def regBits (r : RegNo) : BitVec 3 := BitVec.ofFin r

/-- The `mode` field of an addressing mode (R102). -/
def EA.modeBits : EA → BitVec 3
  | .dn _ => 0#3
  | .an _ => 1#3
  | .ind _ => 2#3
  | .postInc _ => 3#3
  | .preDec _ => 4#3
  | .disp _ _ => 5#3
  | .index _ _ => 6#3
  | .absW _ | .absL _ | .pcDisp _ | .pcIndex _ | .imm _ => 7#3

/-- The `reg` field of an addressing mode (R102). -/
def EA.regBits : EA → BitVec 3
  | .dn r | .an r | .ind r | .postInc r | .preDec r => Sys2Proof.regBits r
  | .disp r _ | .index r _ => Sys2Proof.regBits r
  | .absW _ => 0#3
  | .absL _ => 1#3
  | .pcDisp _ => 2#3
  | .pcIndex _ => 3#3
  | .imm _ => 4#3

/-- A byte in an extension word; the high byte, which is ignored (R117), is written as zero. -/
def extByte (b : Byte) : List Word := [b.setWidth 16]

/-- A word in an extension word. -/
def extWord (w : Word) : List Word := [w]

/-- A long in two extension words, high word first (R106). -/
def extLong (v : Long) : List Word := [v.extractLsb' 16 16, v.extractLsb' 0 16]

/-- The brief extension word (R105), bits 10 to 8 zero. -/
def Brief.toWord (x : Brief) : Word :=
  BitVec.ofBool x.isAddr ++ regBits x.xreg ++ BitVec.ofBool x.isLong ++ 0#3 ++ x.disp

/-- The extension words of an addressing mode (R105 to R107). -/
def EA.ext (ea : EA) (sz : Size) : List Word :=
  match ea with
  | .dn _ | .an _ | .ind _ | .postInc _ | .preDec _ => []
  | .disp _ d | .absW d | .pcDisp d => extWord d
  | .index _ x | .pcIndex x => extWord x.toWord
  | .absL a => extLong a
  | .imm v =>
    match sz with
    | .b => extByte (v.setWidth 8)
    | .w => extWord (v.setWidth 16)
    | .l => extLong v

/-- An opcode word whose low six bits are an effective address. -/
def eaWord (g : BitVec 4) (f9 f6 : BitVec 3) (ea : EA) : Word := pack g f9 f6 ea.modeBits ea.regBits

/-- The opcode word of a branch (R104, `BRANCH`). -/
def branchWord (cc : BitVec 4) (d : BranchDisp) : Word :=
  match d with
  | .short d8 => 6#4 ++ cc ++ d8
  | .word _ => 6#4 ++ cc ++ 0#8

/-- The extension words of a branch. -/
def BranchDisp.ext : BranchDisp → List Word
  | .short _ => []
  | .word w => extWord w

/-- An opcode word with an eight-bit field at the bottom (R104, `MOVEQ`). -/
def quickByteWord (g : BitVec 4) (f9 : BitVec 3) (bit8 : BitVec 1) (data : Byte) : Word :=
  g ++ f9 ++ bit8 ++ data

/-- Bits 5-3 of the `RX_RY` format (R104). -/
def RxForm.bits : RxForm → BitVec 3
  | .dreg => 0#3
  | .predec => 1#3

/-- Bits 11-9 of the `SHIFT_REG` format (R104). -/
def ShiftCount.bits : ShiftCount → BitVec 3
  | .imm c => c
  | .reg r => regBits r

/-- Bits 5-3 of the `SHIFT_REG` format (R104): `ir` and `type`. -/
def ShiftCount.modeBits (c : ShiftCount) (ty : BitVec 2) : BitVec 3 :=
  match c with
  | .imm _ => 0#1 ++ ty
  | .reg _ => 1#1 ++ ty

/-- The words of an instruction: its opcode word by the pattern of R112 and then its extension words in
the order of R108. -/
def encode : Instr → List Word
  | .hosttrap w => [w]
  | .oriToCcr imm => (pack 0#4 0#3 0#3 7#3 4#3) :: (extByte imm)
  | .oriToSr imm => (pack 0#4 0#3 1#3 7#3 4#3) :: (extWord imm)
  | .oriB imm ea => (eaWord 0#4 0#3 0#3 ea) :: (extByte imm ++ ea.ext .b)
  | .oriW imm ea => (eaWord 0#4 0#3 1#3 ea) :: (extWord imm ++ ea.ext .w)
  | .oriL imm ea => (eaWord 0#4 0#3 2#3 ea) :: (extLong imm ++ ea.ext .l)
  | .andiToCcr imm => (pack 0#4 1#3 0#3 7#3 4#3) :: (extByte imm)
  | .andiToSr imm => (pack 0#4 1#3 1#3 7#3 4#3) :: (extWord imm)
  | .andiB imm ea => (eaWord 0#4 1#3 0#3 ea) :: (extByte imm ++ ea.ext .b)
  | .andiW imm ea => (eaWord 0#4 1#3 1#3 ea) :: (extWord imm ++ ea.ext .w)
  | .andiL imm ea => (eaWord 0#4 1#3 2#3 ea) :: (extLong imm ++ ea.ext .l)
  | .subiB imm ea => (eaWord 0#4 2#3 0#3 ea) :: (extByte imm ++ ea.ext .b)
  | .subiW imm ea => (eaWord 0#4 2#3 1#3 ea) :: (extWord imm ++ ea.ext .w)
  | .subiL imm ea => (eaWord 0#4 2#3 2#3 ea) :: (extLong imm ++ ea.ext .l)
  | .addiB imm ea => (eaWord 0#4 3#3 0#3 ea) :: (extByte imm ++ ea.ext .b)
  | .addiW imm ea => (eaWord 0#4 3#3 1#3 ea) :: (extWord imm ++ ea.ext .w)
  | .addiL imm ea => (eaWord 0#4 3#3 2#3 ea) :: (extLong imm ++ ea.ext .l)
  | .btstImm bit ea => (eaWord 0#4 4#3 0#3 ea) :: (extByte bit ++ ea.ext .b)
  | .bchgImm bit ea => (eaWord 0#4 4#3 1#3 ea) :: (extByte bit ++ ea.ext .b)
  | .bclrImm bit ea => (eaWord 0#4 4#3 2#3 ea) :: (extByte bit ++ ea.ext .b)
  | .bsetImm bit ea => (eaWord 0#4 4#3 3#3 ea) :: (extByte bit ++ ea.ext .b)
  | .eoriToCcr imm => (pack 0#4 5#3 0#3 7#3 4#3) :: (extByte imm)
  | .eoriToSr imm => (pack 0#4 5#3 1#3 7#3 4#3) :: (extWord imm)
  | .eoriB imm ea => (eaWord 0#4 5#3 0#3 ea) :: (extByte imm ++ ea.ext .b)
  | .eoriW imm ea => (eaWord 0#4 5#3 1#3 ea) :: (extWord imm ++ ea.ext .w)
  | .eoriL imm ea => (eaWord 0#4 5#3 2#3 ea) :: (extLong imm ++ ea.ext .l)
  | .cmpiB imm ea => (eaWord 0#4 6#3 0#3 ea) :: (extByte imm ++ ea.ext .b)
  | .cmpiW imm ea => (eaWord 0#4 6#3 1#3 ea) :: (extWord imm ++ ea.ext .w)
  | .cmpiL imm ea => (eaWord 0#4 6#3 2#3 ea) :: (extLong imm ++ ea.ext .l)
  | .btstReg dn ea => (eaWord 0#4 (regBits dn) 4#3 ea) :: (ea.ext .b)
  | .bchgReg dn ea => (eaWord 0#4 (regBits dn) 5#3 ea) :: (ea.ext .b)
  | .bclrReg dn ea => (eaWord 0#4 (regBits dn) 6#3 ea) :: (ea.ext .b)
  | .bsetReg dn ea => (eaWord 0#4 (regBits dn) 7#3 ea) :: (ea.ext .b)
  | .movepLoadW dn an disp => (pack 0#4 (regBits dn) 4#3 1#3 (regBits an)) :: (extWord disp)
  | .movepLoadL dn an disp => (pack 0#4 (regBits dn) 5#3 1#3 (regBits an)) :: (extWord disp)
  | .movepStoreW dn an disp => (pack 0#4 (regBits dn) 6#3 1#3 (regBits an)) :: (extWord disp)
  | .movepStoreL dn an disp => (pack 0#4 (regBits dn) 7#3 1#3 (regBits an)) :: (extWord disp)
  | .moveB src dst => (pack 1#4 dst.regBits dst.modeBits src.modeBits src.regBits) :: (src.ext .b ++ dst.ext .b)
  | .moveL src dst => (pack 2#4 dst.regBits dst.modeBits src.modeBits src.regBits) :: (src.ext .l ++ dst.ext .l)
  | .moveaL src an => (eaWord 2#4 (regBits an) 1#3 src) :: (src.ext .l)
  | .moveW src dst => (pack 3#4 dst.regBits dst.modeBits src.modeBits src.regBits) :: (src.ext .w ++ dst.ext .w)
  | .moveaW src an => (eaWord 3#4 (regBits an) 1#3 src) :: (src.ext .w)
  | .negxB ea => (eaWord 4#4 0#3 0#3 ea) :: (ea.ext .b)
  | .negxW ea => (eaWord 4#4 0#3 1#3 ea) :: (ea.ext .w)
  | .negxL ea => (eaWord 4#4 0#3 2#3 ea) :: (ea.ext .l)
  | .moveFromSr ea => (eaWord 4#4 0#3 3#3 ea) :: (ea.ext .w)
  | .chk ea dn => (eaWord 4#4 (regBits dn) 6#3 ea) :: (ea.ext .w)
  | .lea ea an => (eaWord 4#4 (regBits an) 7#3 ea) :: (ea.ext .l)
  | .clrB ea => (eaWord 4#4 1#3 0#3 ea) :: (ea.ext .b)
  | .clrW ea => (eaWord 4#4 1#3 1#3 ea) :: (ea.ext .w)
  | .clrL ea => (eaWord 4#4 1#3 2#3 ea) :: (ea.ext .l)
  | .negB ea => (eaWord 4#4 2#3 0#3 ea) :: (ea.ext .b)
  | .negW ea => (eaWord 4#4 2#3 1#3 ea) :: (ea.ext .w)
  | .negL ea => (eaWord 4#4 2#3 2#3 ea) :: (ea.ext .l)
  | .moveToCcr ea => (eaWord 4#4 2#3 3#3 ea) :: (ea.ext .w)
  | .notB ea => (eaWord 4#4 3#3 0#3 ea) :: (ea.ext .b)
  | .notW ea => (eaWord 4#4 3#3 1#3 ea) :: (ea.ext .w)
  | .notL ea => (eaWord 4#4 3#3 2#3 ea) :: (ea.ext .l)
  | .moveToSr ea => (eaWord 4#4 3#3 3#3 ea) :: (ea.ext .w)
  | .nbcd ea => (eaWord 4#4 4#3 0#3 ea) :: (ea.ext .b)
  | .swap dn => [pack 4#4 4#3 1#3 0#3 (regBits dn)]
  | .pea ea => (eaWord 4#4 4#3 1#3 ea) :: (ea.ext .l)
  | .extW dn => [pack 4#4 4#3 2#3 0#3 (regBits dn)]
  | .extL dn => [pack 4#4 4#3 3#3 0#3 (regBits dn)]
  | .movemStoreW mask ea => (eaWord 4#4 4#3 2#3 ea) :: (extWord mask ++ ea.ext .w)
  | .movemStoreL mask ea => (eaWord 4#4 4#3 3#3 ea) :: (extWord mask ++ ea.ext .l)
  | .movemLoadW mask ea => (eaWord 4#4 6#3 2#3 ea) :: (extWord mask ++ ea.ext .w)
  | .movemLoadL mask ea => (eaWord 4#4 6#3 3#3 ea) :: (extWord mask ++ ea.ext .l)
  | .tstB ea => (eaWord 4#4 5#3 0#3 ea) :: (ea.ext .b)
  | .tstW ea => (eaWord 4#4 5#3 1#3 ea) :: (ea.ext .w)
  | .tstL ea => (eaWord 4#4 5#3 2#3 ea) :: (ea.ext .l)
  | .tas ea => (eaWord 4#4 5#3 3#3 ea) :: (ea.ext .b)
  | .illegal => [pack 4#4 5#3 3#3 7#3 4#3]
  | .trap v => [pack 4#4 7#3 1#3 (0#2 ++ v.extractLsb' 3 1) (v.extractLsb' 0 3)]
  | .link an disp => (pack 4#4 7#3 1#3 2#3 (regBits an)) :: (extWord disp)
  | .unlk an => [pack 4#4 7#3 1#3 3#3 (regBits an)]
  | .moveToUsp an => [pack 4#4 7#3 1#3 4#3 (regBits an)]
  | .moveFromUsp an => [pack 4#4 7#3 1#3 5#3 (regBits an)]
  | .reset => [pack 4#4 7#3 1#3 6#3 0#3]
  | .nop => [pack 4#4 7#3 1#3 6#3 1#3]
  | .stop imm => (pack 4#4 7#3 1#3 6#3 2#3) :: (extWord imm)
  | .rte => [pack 4#4 7#3 1#3 6#3 3#3]
  | .rts => [pack 4#4 7#3 1#3 6#3 5#3]
  | .trapv => [pack 4#4 7#3 1#3 6#3 6#3]
  | .rtr => [pack 4#4 7#3 1#3 6#3 7#3]
  | .jsr ea => (eaWord 4#4 7#3 2#3 ea) :: (ea.ext .l)
  | .jmp ea => (eaWord 4#4 7#3 3#3 ea) :: (ea.ext .l)
  | .addqB q ea => (eaWord 5#4 q 0#3 ea) :: (ea.ext .b)
  | .addqW q ea => (eaWord 5#4 q 1#3 ea) :: (ea.ext .w)
  | .addqL q ea => (eaWord 5#4 q 2#3 ea) :: (ea.ext .l)
  | .subqB q ea => (eaWord 5#4 q 4#3 ea) :: (ea.ext .b)
  | .subqW q ea => (eaWord 5#4 q 5#3 ea) :: (ea.ext .w)
  | .subqL q ea => (eaWord 5#4 q 6#3 ea) :: (ea.ext .l)
  | .st ea => (eaWord 5#4 0#3 3#3 ea) :: (ea.ext .b)
  | .sf ea => (eaWord 5#4 0#3 7#3 ea) :: (ea.ext .b)
  | .shi ea => (eaWord 5#4 1#3 3#3 ea) :: (ea.ext .b)
  | .sls ea => (eaWord 5#4 1#3 7#3 ea) :: (ea.ext .b)
  | .scc ea => (eaWord 5#4 2#3 3#3 ea) :: (ea.ext .b)
  | .scs ea => (eaWord 5#4 2#3 7#3 ea) :: (ea.ext .b)
  | .sne ea => (eaWord 5#4 3#3 3#3 ea) :: (ea.ext .b)
  | .seq ea => (eaWord 5#4 3#3 7#3 ea) :: (ea.ext .b)
  | .svc ea => (eaWord 5#4 4#3 3#3 ea) :: (ea.ext .b)
  | .svs ea => (eaWord 5#4 4#3 7#3 ea) :: (ea.ext .b)
  | .spl ea => (eaWord 5#4 5#3 3#3 ea) :: (ea.ext .b)
  | .smi ea => (eaWord 5#4 5#3 7#3 ea) :: (ea.ext .b)
  | .sge ea => (eaWord 5#4 6#3 3#3 ea) :: (ea.ext .b)
  | .slt ea => (eaWord 5#4 6#3 7#3 ea) :: (ea.ext .b)
  | .sgt ea => (eaWord 5#4 7#3 3#3 ea) :: (ea.ext .b)
  | .sle ea => (eaWord 5#4 7#3 7#3 ea) :: (ea.ext .b)
  | .dbt dn disp => (pack 5#4 0#3 3#3 1#3 (regBits dn)) :: (extWord disp)
  | .dbf dn disp => (pack 5#4 0#3 7#3 1#3 (regBits dn)) :: (extWord disp)
  | .dbhi dn disp => (pack 5#4 1#3 3#3 1#3 (regBits dn)) :: (extWord disp)
  | .dbls dn disp => (pack 5#4 1#3 7#3 1#3 (regBits dn)) :: (extWord disp)
  | .dbcc dn disp => (pack 5#4 2#3 3#3 1#3 (regBits dn)) :: (extWord disp)
  | .dbcs dn disp => (pack 5#4 2#3 7#3 1#3 (regBits dn)) :: (extWord disp)
  | .dbne dn disp => (pack 5#4 3#3 3#3 1#3 (regBits dn)) :: (extWord disp)
  | .dbeq dn disp => (pack 5#4 3#3 7#3 1#3 (regBits dn)) :: (extWord disp)
  | .dbvc dn disp => (pack 5#4 4#3 3#3 1#3 (regBits dn)) :: (extWord disp)
  | .dbvs dn disp => (pack 5#4 4#3 7#3 1#3 (regBits dn)) :: (extWord disp)
  | .dbpl dn disp => (pack 5#4 5#3 3#3 1#3 (regBits dn)) :: (extWord disp)
  | .dbmi dn disp => (pack 5#4 5#3 7#3 1#3 (regBits dn)) :: (extWord disp)
  | .dbge dn disp => (pack 5#4 6#3 3#3 1#3 (regBits dn)) :: (extWord disp)
  | .dblt dn disp => (pack 5#4 6#3 7#3 1#3 (regBits dn)) :: (extWord disp)
  | .dbgt dn disp => (pack 5#4 7#3 3#3 1#3 (regBits dn)) :: (extWord disp)
  | .dble dn disp => (pack 5#4 7#3 7#3 1#3 (regBits dn)) :: (extWord disp)
  | .bra d => (branchWord 0#4 d) :: (d.ext)
  | .bsr d => (branchWord 1#4 d) :: (d.ext)
  | .bhi d => (branchWord 2#4 d) :: (d.ext)
  | .bls d => (branchWord 3#4 d) :: (d.ext)
  | .bcc d => (branchWord 4#4 d) :: (d.ext)
  | .bcs d => (branchWord 5#4 d) :: (d.ext)
  | .bne d => (branchWord 6#4 d) :: (d.ext)
  | .beq d => (branchWord 7#4 d) :: (d.ext)
  | .bvc d => (branchWord 8#4 d) :: (d.ext)
  | .bvs d => (branchWord 9#4 d) :: (d.ext)
  | .bpl d => (branchWord 10#4 d) :: (d.ext)
  | .bmi d => (branchWord 11#4 d) :: (d.ext)
  | .bge d => (branchWord 12#4 d) :: (d.ext)
  | .blt d => (branchWord 13#4 d) :: (d.ext)
  | .bgt d => (branchWord 14#4 d) :: (d.ext)
  | .ble d => (branchWord 15#4 d) :: (d.ext)
  | .moveq dn data => [quickByteWord 7#4 (regBits dn) 0#1 data]
  | .orEaDnB ea dn => (eaWord 8#4 (regBits dn) 0#3 ea) :: (ea.ext .b)
  | .orEaDnW ea dn => (eaWord 8#4 (regBits dn) 1#3 ea) :: (ea.ext .w)
  | .orEaDnL ea dn => (eaWord 8#4 (regBits dn) 2#3 ea) :: (ea.ext .l)
  | .divu ea dn => (eaWord 8#4 (regBits dn) 3#3 ea) :: (ea.ext .w)
  | .sbcd form ry rx => [pack 8#4 (regBits rx) 4#3 form.bits (regBits ry)]
  | .orDnEaB dn ea => (eaWord 8#4 (regBits dn) 4#3 ea) :: (ea.ext .b)
  | .orDnEaW dn ea => (eaWord 8#4 (regBits dn) 5#3 ea) :: (ea.ext .w)
  | .orDnEaL dn ea => (eaWord 8#4 (regBits dn) 6#3 ea) :: (ea.ext .l)
  | .divs ea dn => (eaWord 8#4 (regBits dn) 7#3 ea) :: (ea.ext .w)
  | .subEaDnB ea dn => (eaWord 9#4 (regBits dn) 0#3 ea) :: (ea.ext .b)
  | .subEaDnW ea dn => (eaWord 9#4 (regBits dn) 1#3 ea) :: (ea.ext .w)
  | .subEaDnL ea dn => (eaWord 9#4 (regBits dn) 2#3 ea) :: (ea.ext .l)
  | .subaW ea an => (eaWord 9#4 (regBits an) 3#3 ea) :: (ea.ext .w)
  | .subxB form ry rx => [pack 9#4 (regBits rx) 4#3 form.bits (regBits ry)]
  | .subxW form ry rx => [pack 9#4 (regBits rx) 5#3 form.bits (regBits ry)]
  | .subxL form ry rx => [pack 9#4 (regBits rx) 6#3 form.bits (regBits ry)]
  | .subDnEaB dn ea => (eaWord 9#4 (regBits dn) 4#3 ea) :: (ea.ext .b)
  | .subDnEaW dn ea => (eaWord 9#4 (regBits dn) 5#3 ea) :: (ea.ext .w)
  | .subDnEaL dn ea => (eaWord 9#4 (regBits dn) 6#3 ea) :: (ea.ext .l)
  | .subaL ea an => (eaWord 9#4 (regBits an) 7#3 ea) :: (ea.ext .l)
  | .cmpB ea dn => (eaWord 11#4 (regBits dn) 0#3 ea) :: (ea.ext .b)
  | .cmpW ea dn => (eaWord 11#4 (regBits dn) 1#3 ea) :: (ea.ext .w)
  | .cmpL ea dn => (eaWord 11#4 (regBits dn) 2#3 ea) :: (ea.ext .l)
  | .cmpaW ea an => (eaWord 11#4 (regBits an) 3#3 ea) :: (ea.ext .w)
  | .cmpmB ay ax => [pack 11#4 (regBits ax) 4#3 1#3 (regBits ay)]
  | .cmpmW ay ax => [pack 11#4 (regBits ax) 5#3 1#3 (regBits ay)]
  | .cmpmL ay ax => [pack 11#4 (regBits ax) 6#3 1#3 (regBits ay)]
  | .eorB dn ea => (eaWord 11#4 (regBits dn) 4#3 ea) :: (ea.ext .b)
  | .eorW dn ea => (eaWord 11#4 (regBits dn) 5#3 ea) :: (ea.ext .w)
  | .eorL dn ea => (eaWord 11#4 (regBits dn) 6#3 ea) :: (ea.ext .l)
  | .cmpaL ea an => (eaWord 11#4 (regBits an) 7#3 ea) :: (ea.ext .l)
  | .andEaDnB ea dn => (eaWord 12#4 (regBits dn) 0#3 ea) :: (ea.ext .b)
  | .andEaDnW ea dn => (eaWord 12#4 (regBits dn) 1#3 ea) :: (ea.ext .w)
  | .andEaDnL ea dn => (eaWord 12#4 (regBits dn) 2#3 ea) :: (ea.ext .l)
  | .mulu ea dn => (eaWord 12#4 (regBits dn) 3#3 ea) :: (ea.ext .w)
  | .abcd form ry rx => [pack 12#4 (regBits rx) 4#3 form.bits (regBits ry)]
  | .exgDD rx ry => [pack 12#4 (regBits rx) 5#3 0#3 (regBits ry)]
  | .exgAA rx ry => [pack 12#4 (regBits rx) 5#3 1#3 (regBits ry)]
  | .exgDA rx ry => [pack 12#4 (regBits rx) 6#3 1#3 (regBits ry)]
  | .andDnEaB dn ea => (eaWord 12#4 (regBits dn) 4#3 ea) :: (ea.ext .b)
  | .andDnEaW dn ea => (eaWord 12#4 (regBits dn) 5#3 ea) :: (ea.ext .w)
  | .andDnEaL dn ea => (eaWord 12#4 (regBits dn) 6#3 ea) :: (ea.ext .l)
  | .muls ea dn => (eaWord 12#4 (regBits dn) 7#3 ea) :: (ea.ext .w)
  | .addEaDnB ea dn => (eaWord 13#4 (regBits dn) 0#3 ea) :: (ea.ext .b)
  | .addEaDnW ea dn => (eaWord 13#4 (regBits dn) 1#3 ea) :: (ea.ext .w)
  | .addEaDnL ea dn => (eaWord 13#4 (regBits dn) 2#3 ea) :: (ea.ext .l)
  | .addaW ea an => (eaWord 13#4 (regBits an) 3#3 ea) :: (ea.ext .w)
  | .addxB form ry rx => [pack 13#4 (regBits rx) 4#3 form.bits (regBits ry)]
  | .addxW form ry rx => [pack 13#4 (regBits rx) 5#3 form.bits (regBits ry)]
  | .addxL form ry rx => [pack 13#4 (regBits rx) 6#3 form.bits (regBits ry)]
  | .addDnEaB dn ea => (eaWord 13#4 (regBits dn) 4#3 ea) :: (ea.ext .b)
  | .addDnEaW dn ea => (eaWord 13#4 (regBits dn) 5#3 ea) :: (ea.ext .w)
  | .addDnEaL dn ea => (eaWord 13#4 (regBits dn) 6#3 ea) :: (ea.ext .l)
  | .addaL ea an => (eaWord 13#4 (regBits an) 7#3 ea) :: (ea.ext .l)
  | .asrRegB count dn => [pack 14#4 count.bits 0#3 (count.modeBits 0#2) (regBits dn)]
  | .asrRegW count dn => [pack 14#4 count.bits 1#3 (count.modeBits 0#2) (regBits dn)]
  | .asrRegL count dn => [pack 14#4 count.bits 2#3 (count.modeBits 0#2) (regBits dn)]
  | .aslRegB count dn => [pack 14#4 count.bits 4#3 (count.modeBits 0#2) (regBits dn)]
  | .aslRegW count dn => [pack 14#4 count.bits 5#3 (count.modeBits 0#2) (regBits dn)]
  | .aslRegL count dn => [pack 14#4 count.bits 6#3 (count.modeBits 0#2) (regBits dn)]
  | .lsrRegB count dn => [pack 14#4 count.bits 0#3 (count.modeBits 1#2) (regBits dn)]
  | .lsrRegW count dn => [pack 14#4 count.bits 1#3 (count.modeBits 1#2) (regBits dn)]
  | .lsrRegL count dn => [pack 14#4 count.bits 2#3 (count.modeBits 1#2) (regBits dn)]
  | .lslRegB count dn => [pack 14#4 count.bits 4#3 (count.modeBits 1#2) (regBits dn)]
  | .lslRegW count dn => [pack 14#4 count.bits 5#3 (count.modeBits 1#2) (regBits dn)]
  | .lslRegL count dn => [pack 14#4 count.bits 6#3 (count.modeBits 1#2) (regBits dn)]
  | .roxrRegB count dn => [pack 14#4 count.bits 0#3 (count.modeBits 2#2) (regBits dn)]
  | .roxrRegW count dn => [pack 14#4 count.bits 1#3 (count.modeBits 2#2) (regBits dn)]
  | .roxrRegL count dn => [pack 14#4 count.bits 2#3 (count.modeBits 2#2) (regBits dn)]
  | .roxlRegB count dn => [pack 14#4 count.bits 4#3 (count.modeBits 2#2) (regBits dn)]
  | .roxlRegW count dn => [pack 14#4 count.bits 5#3 (count.modeBits 2#2) (regBits dn)]
  | .roxlRegL count dn => [pack 14#4 count.bits 6#3 (count.modeBits 2#2) (regBits dn)]
  | .rorRegB count dn => [pack 14#4 count.bits 0#3 (count.modeBits 3#2) (regBits dn)]
  | .rorRegW count dn => [pack 14#4 count.bits 1#3 (count.modeBits 3#2) (regBits dn)]
  | .rorRegL count dn => [pack 14#4 count.bits 2#3 (count.modeBits 3#2) (regBits dn)]
  | .rolRegB count dn => [pack 14#4 count.bits 4#3 (count.modeBits 3#2) (regBits dn)]
  | .rolRegW count dn => [pack 14#4 count.bits 5#3 (count.modeBits 3#2) (regBits dn)]
  | .rolRegL count dn => [pack 14#4 count.bits 6#3 (count.modeBits 3#2) (regBits dn)]
  | .asrMem ea => (eaWord 14#4 0#3 3#3 ea) :: (ea.ext .w)
  | .aslMem ea => (eaWord 14#4 0#3 7#3 ea) :: (ea.ext .w)
  | .lsrMem ea => (eaWord 14#4 1#3 3#3 ea) :: (ea.ext .w)
  | .lslMem ea => (eaWord 14#4 1#3 7#3 ea) :: (ea.ext .w)
  | .roxrMem ea => (eaWord 14#4 2#3 3#3 ea) :: (ea.ext .w)
  | .roxlMem ea => (eaWord 14#4 2#3 7#3 ea) :: (ea.ext .w)
  | .rorMem ea => (eaWord 14#4 3#3 3#3 ea) :: (ea.ext .w)
  | .rolMem ea => (eaWord 14#4 3#3 7#3 ea) :: (ea.ext .w)
  | .linea low => [(0xA#4 ++ low : BitVec 16)]
  | .linef low => [(0xF#4 ++ low : BitVec 16)]
  | .illegalFiller w => [w]

end Sys2Proof
end

