-- ==== Sys2Proof/Machine/State.lean ====
section
/-! DEFINITION. The state of the machine (spec/10_state.md), the reasons it can stop, and the state
after reset (R46, R470, R471). Everything is plain data. -/

namespace Sys2Proof.Machine

/-- The five condition codes, bits 4 to 0 of the status register (R31). -/
structure Flags where
  x : Bool
  n : Bool
  z : Bool
  v : Bool
  c : Bool
deriving DecidableEq, Repr

/-- The implemented bits of the status register (R30): trace, supervisor, interrupt mask, condition
codes. The other bits are no storage (R32, 93_implementation_defined.md A5); the word software reads and
writes is `StatusReg.toWord` and `StatusReg.ofWord`. -/
structure StatusReg where
  t   : Bool
  s   : Bool
  i   : BitVec 3
  ccr : Flags
deriving DecidableEq, Repr

/-- The memory store (R60) at byte granularity: strictly rising addresses, no entry that equals what an
unlisted address reads as (`Memory.wf`). -/
structure Memory where
  cells : List Host.Cell
deriving DecidableEq, Repr

/-- A record of the legacy interrupt registry (R41): class, level and the host's handler object, all
of them names the core only stores. -/
structure IrqHandler where
  cls     : Nat
  level   : Nat
  handler : Nat
deriving DecidableEq, Repr

/-- The output events of a cycle (R45, R72, R84, R363, R439). -/
inductive Event where
  /-- `ScreenWrite(n, a, v)`: a stored write at or above `SCREEN_START` (R72). -/
  | screenWrite (sz : Size) (addr : Nat) (value : Long)
  /-- `RegionChanged(dest, len)`: a bulk write that meets the screen window (R84). -/
  | regionChanged (dest : Long) (len : Nat)
  /-- The trap-dispatch collaborator was called with this index (R360, R361). -/
  | hostTrap (index : Int)
  /-- What `registerHandler` returned to the host (R439). -/
  | registration (result : Int)
deriving DecidableEq, Repr

/-- The outcome codes of a cycle that is not fatal (R150). -/
inductive StopCode where
  | goOn
  | stop
deriving DecidableEq, Repr

/-- One action of the trap-dispatch collaborator on the core (R363): the whole of what it may do. -/
inductive HostAction where
  | setD (r : RegNo) (v : Long)
  | setA (r : RegNo) (v : Long)
  | setSR (v : Word)
  | setPc (target : Long)
  | memWrite (sz : Size) (addr v : Long)
  | bulkWrite (dest : Long) (bytes : List Byte)
  | signalInterrupt
deriving DecidableEq, Repr

/-- A call the host makes between two cycles (R153). -/
inductive HostCall where
  /-- `generateInterrupt()` (R434). -/
  | generateInterrupt
  /-- `generateInterrupt(index)` (R441). -/
  | generateInterruptAt (index : Int)
  /-- `registerHandler(class, level, handler)` (R439). -/
  | registerHandler (h : IrqHandler)
  /-- `unregisterHandler(index)` (R440). -/
  | unregisterHandler (index : Int)
  /-- `HostBulkWrite(dest, bytes)` (R84). -/
  | bulkWrite (dest : Long) (bytes : List Byte)
  /-- `reset()` (R470). -/
  | reset
deriving DecidableEq, Repr

/-- Everything the spec gives the machine, and the inputs and free values of the model. -/
structure State where
  /-- `D[0]` to `D[7]` (R20). -/
  d            : Vector Long 8
  /-- `A[0]` to `A[7]` (R21); `A[7]` is the active stack pointer (R22). -/
  a            : Vector Long 8
  /-- The user shadow stack pointer (R36). -/
  usp          : Long
  /-- The supervisor shadow stack pointer (R36). -/
  ssp          : Long
  /-- The program counter, a cell index (R25, R26). -/
  pc           : CellIndex
  /-- The status register (R30). -/
  sr           : StatusReg
  /-- The cached trace flag (R38). -/
  traceEnabled : Bool
  /-- The state of STOP (R40). -/
  stopped      : Bool
  /-- The interrupt latch (R39). -/
  irqPending   : Bool
  /-- The legacy interrupt registry (R41). -/
  irqSlots     : Vector (Option IrqHandler) 10
  /-- The memory store (R44). -/
  mem          : Memory
  /-- The output events of the last cycle, oldest first (R149). -/
  events       : List Event
  /-- The outcome of the last cycle (R150). -/
  outcome      : StopCode
  /-- The input stream (R437): the host's calls at the next cycle boundary, at the one after it, … -/
  hostInputs   : List (List HostCall)
  /-- The oracle of R363: what the collaborator does at the next host trap, at the one after it, …;
  where the list has ended it does nothing (the identity of R363). -/
  hostTraps    : List (List HostAction)
  /-- The model's own: how many free values have been drawn (`Config.freeBits`). -/
  draws        : Nat
  /-- The implementation parameters (R6, R47); no step writes this field. -/
  config       : Config
deriving DecidableEq, Repr

/-- Why the machine stops. -/
inductive Fault where
  /-- `Fatal(v)` of R430: the vector `v` and vector 15 were both zero. Raised by exception entry (R428,
  R431) alone, whoever raised the exception; `left` is the state the entry left. Safe: it is the spec's own
  outcome, after which no cycle is defined. -/
  | fatal (vector : Nat) (left : State)
deriving DecidableEq, Repr

/-- Why the model gives no meaning. -/
inductive Refusal where
  /-- An instruction whose meaning is not written. Raised by `exec` alone. Safe: the model stops. No
  instruction is refused. -/
  | notModelled (mnemonic : String)
deriving DecidableEq, Repr

/-- The answer of a meaning and of a step. -/
abbrev Result := Host.Outcome State Fault Refusal

/-- The machine right after construction and `reset()` (R470, R471), with nothing loaded: memory all
zero, so the two reset vectors are zero and so are `A[7]` and `pc`. DESIGN CHOICE: the configuration is
`Config.testT` (log 1), the launch parameters are zero (log 4), the free values begin at the first one
(log 3), no input is pending (log 2). -/
def State.reset : State where
  d            := Config.testT.resetD
  a            := Config.testT.resetA.push 0#32
  usp          := Config.testT.resetUsp
  ssp          := Config.testT.resetSsp
  pc           := 0#31
  sr           := { t := false, s := true, i := 7#3, ccr := ⟨false, false, false, false, false⟩ }
  traceEnabled := false
  stopped      := false
  irqPending   := false
  irqSlots     := Vector.replicate 10 none
  mem          := { cells := [] }
  events       := []
  outcome      := .goOn
  hostInputs   := []
  hostTraps    := []
  draws        := 0
  config       := Config.testT

end Sys2Proof.Machine
end

