-- ==== Sys2Proof/Machine/Bits.lean ====
section
/-! DEFINITION. Sizes, truncation, sign extension (spec/00_scope.md R7, R8) and the status register as a
word (spec/10_state.md R30 to R32). -/

namespace Sys2Proof.Machine

/-- `bytes(sz)` (R8). -/
def sizeBytes : Size → Nat
  | .b => 1
  | .w => 2
  | .l => 4

/-- `bits(sz)` (R8). -/
def sizeBits : Size → Nat
  | .b => 8
  | .w => 16
  | .l => 32

/-- `mask(sz)` (R8). -/
def sizeMask : Size → Long
  | .b => 0x000000FF#32
  | .w => 0x0000FFFF#32
  | .l => 0xFFFFFFFF#32

/-- `bytes(sz)` as a long, for address arithmetic. -/
def sizeStep (sz : Size) : Long := BitVec.ofNat 32 (sizeBytes sz)

/-- `trunc(sz, v)` (R8). -/
def trunc (sz : Size) (v : Long) : Long := v &&& sizeMask sz

/-- `msb(sz, v)` (R8). -/
def msbOf (sz : Size) (v : Long) : Bool := v.getLsbD (sizeBits sz - 1)

/-- Write the low `bits(sz)` bits of a register and leave its other bits (R23). -/
def merge (sz : Size) (old v : Long) : Long := (old &&& ~~~ (sizeMask sz)) ||| trunc sz v

/-- `sext_32` of a value of size `sz` (R7). -/
def sext (sz : Size) (v : Long) : Long :=
  match sz with
  | .b => (v.setWidth 8).signExtend 32
  | .w => (v.setWidth 16).signExtend 32
  | .l => v

/-- `signed` of a value of size `sz` (R7). -/
def signedOf (sz : Size) (v : Long) : Int := (sext sz v).toInt

/-- The condition codes as the low byte of the status register (R31). -/
def Flags.toByte (f : Flags) : Byte :=
  0#3 ++ BitVec.ofBool f.x ++ BitVec.ofBool f.n ++ BitVec.ofBool f.z ++ BitVec.ofBool f.v
    ++ BitVec.ofBool f.c

/-- The condition codes of a byte; bits 7 to 5 are dropped (R32, R35). -/
def Flags.ofByte (b : Byte) : Flags where
  x := b.getLsbD 4
  n := b.getLsbD 3
  z := b.getLsbD 2
  v := b.getLsbD 1
  c := b.getLsbD 0

/-- The status register as a word; the unimplemented bits read as zero (R30, R32). -/
def StatusReg.toWord (r : StatusReg) : Word :=
  BitVec.ofBool r.t ++ 0#1 ++ BitVec.ofBool r.s ++ 0#2 ++ r.i ++ r.ccr.toByte

/-- The status register of a word; the unimplemented bits are dropped (R32). -/
def StatusReg.ofWord (w : Word) : StatusReg where
  t   := w.getLsbD 15
  s   := w.getLsbD 13
  i   := w.extractLsb' 8 3
  ccr := Flags.ofByte (w.extractLsb' 0 8)

/-- The unified register number of a data register (R23). -/
def xData (r : RegNo) : XRegNo := ⟨r.val, by omega⟩

/-- The unified register number of an address register (R23). -/
def xAddr (r : RegNo) : XRegNo := ⟨r.val + 8, by omega⟩

end Sys2Proof.Machine
end

