-- ==== Sys2Proof/Machine/Flags.lean ====
section
/-! DEFINITION. The condition-code contract (spec/42_condition_codes.md R190 to R206): one routine per
flag function, over the operand size. `s` is the source, `d` the destination, `r` the result, all
truncated to the size. -/

namespace Sys2Proof.Machine

/-- Overflow of an addition, from the sign bits (R191). -/
def overflowAdd (sm dm rm : Bool) : Bool := (sm && dm && !rm) || (!sm && !dm && rm)

/-- Carry of an addition, from the sign bits (R191). -/
def carryAdd (sm dm rm : Bool) : Bool := (sm && dm) || (!rm && dm) || (sm && !rm)

/-- Overflow of a subtraction, from the sign bits (R192). -/
def overflowSub (sm dm rm : Bool) : Bool := (!sm && dm && !rm) || (sm && !dm && rm)

/-- Borrow of a subtraction, from the sign bits (R192). -/
def carrySub (sm dm rm : Bool) : Bool := (sm && !dm) || (rm && !dm) || (sm && rm)

/-- `flagsAdd(sz, s, d, r)` (R191). -/
def flagsAdd (sz : Size) (s d r : Long) : Flags where
  x := carryAdd (msbOf sz s) (msbOf sz d) (msbOf sz r)
  n := !decide (r = 0#32) && msbOf sz r
  z := decide (r = 0#32)
  v := overflowAdd (msbOf sz s) (msbOf sz d) (msbOf sz r)
  c := carryAdd (msbOf sz s) (msbOf sz d) (msbOf sz r)

/-- `flagsSub(sz, s, d, r)` (R192). -/
def flagsSub (sz : Size) (s d r : Long) : Flags where
  x := carrySub (msbOf sz s) (msbOf sz d) (msbOf sz r)
  n := !decide (r = 0#32) && msbOf sz r
  z := decide (r = 0#32)
  v := overflowSub (msbOf sz s) (msbOf sz d) (msbOf sz r)
  c := carrySub (msbOf sz s) (msbOf sz d) (msbOf sz r)

/-- `flagsCmp(sz, s, d, r)` (R193): as a subtraction, `X` kept. -/
def flagsCmp (old : Flags) (sz : Size) (s d r : Long) : Flags :=
  { flagsSub sz s d r with x := old.x }

/-- `flagsAddX(sz, s, d, r)` (R194): `Z` is sticky. -/
def flagsAddX (old : Flags) (sz : Size) (s d r : Long) : Flags :=
  { flagsAdd sz s d r with n := msbOf sz r, z := old.z && decide (r = 0#32) }

/-- `flagsSubX(sz, s, d, r)` (R194): `Z` is sticky. -/
def flagsSubX (old : Flags) (sz : Size) (s d r : Long) : Flags :=
  { flagsSub sz s d r with n := msbOf sz r, z := old.z && decide (r = 0#32) }

/-- `flagsLogic(sz, r)` (R195). -/
def flagsLogic (old : Flags) (sz : Size) (r : Long) : Flags where
  x := old.x
  n := msbOf sz r
  z := decide (trunc sz r = 0#32)
  v := false
  c := false

/-- `flagsNeg(sz, d, r)` (R196): zero minus the operand. -/
def flagsNeg (sz : Size) (d r : Long) : Flags := flagsSub sz d 0#32 r

/-- `flagsBcd(r, c)` (R265): `N` and `V` are free values. -/
def flagsBcd (old : Flags) (r : Long) (c freeN freeV : Bool) : Flags where
  x := c
  n := freeN
  z := old.z && decide (r = 0#32)
  v := freeV
  c := c

/-- The sixteen conditions (R205). -/
inductive Cond where
  | t | f | hi | ls | cc | cs | ne | eq | vc | vs | pl | mi | ge | lt | gt | le
deriving DecidableEq, Repr

/-- `cond(cc)` (R205). -/
def Cond.holds (k : Cond) (fl : Flags) : Bool :=
  match k with
  | .t => true
  | .f => false
  | .hi => !fl.c && !fl.z
  | .ls => fl.c || fl.z
  | .cc => !fl.c
  | .cs => fl.c
  | .ne => !fl.z
  | .eq => fl.z
  | .vc => !fl.v
  | .vs => fl.v
  | .pl => !fl.n
  | .mi => fl.n
  | .ge => fl.n == fl.v
  | .lt => fl.n != fl.v
  | .gt => !fl.z && (fl.n == fl.v)
  | .le => fl.z || (fl.n != fl.v)

end Sys2Proof.Machine
end

