-- ==== Sys2Proof/Machine/Memory.lean ====
section
/-! DEFINITION. The memory store as a list of bytes in one canonical form (spec/20_memory.md R60). -/

namespace Sys2Proof.Machine

/-- What an address that is not listed reads as: every cell holds zero at construction (R471, decision
D16). -/
def Memory.unlisted : Byte := 0#8

/-- The byte at an address of a list of cells. -/
def getCell (a : Nat) : List Host.Cell → Byte
  | [] => Memory.unlisted
  | (k, c) :: rest => if k = a then c else getCell a rest

/-- A list of cells with the byte at an address set to what an unlisted address reads as. -/
def dropCell (a : Nat) (cells : List Host.Cell) : List Host.Cell := cells.filter (fun p => decide (p.1 ≠ a))

/-- A list of cells with one byte listed, in its place. -/
def insertCell (a : Nat) (b : Byte) : List Host.Cell → List Host.Cell
  | [] => [(a, b)]
  | (k, c) :: rest =>
    if k < a then (k, c) :: insertCell a b rest
    else if k = a then (a, b) :: rest
    else (a, b) :: (k, c) :: rest

/-- A list of cells with one byte changed, in canonical form. -/
def putCell (a : Nat) (b : Byte) (cells : List Host.Cell) : List Host.Cell :=
  if b = Memory.unlisted then dropCell a cells else insertCell a b cells

/-- The byte at an address. -/
def Memory.get (m : Memory) (a : Nat) : Byte := getCell a m.cells

/-- Memory with one byte changed. -/
def Memory.put (m : Memory) (a : Nat) (b : Byte) : Memory := { cells := putCell a b m.cells }

/-- Memory with the bytes of a list changed, the first at `a`. -/
def Memory.putBytes (m : Memory) (a : Nat) : List Byte → Memory
  | [] => m
  | b :: rest => (m.put a b).putBytes (a + 1) rest

/-- The canonical form: strictly rising addresses, and no listed byte reads as an unlisted one. -/
def Memory.wf (m : Memory) : Bool :=
  decide (m.cells.Pairwise (fun p q => p.1 < q.1))
  && m.cells.all (fun p => decide (p.2 ≠ Memory.unlisted))

/-- Whether every listed address lies below a bound. -/
def Memory.below (m : Memory) (bound : Nat) : Bool := m.cells.all (fun p => decide (p.1 < bound))

end Sys2Proof.Machine
end

