-- ==== Sys2Proof/Machine/Ops.lean ====
section
/-! DEFINITION. The named operations over registers and memory: register access (spec/10_state.md), the
memory accessors (spec/20_memory.md R62 to R72), the stack (spec/41_addressing_modes.md R179), the status
register (R34, R35), free values (R10), taking an exception and returning from one (spec/60_exceptions.md
R425 to R431, spec/47_system.md R347). -/

namespace Sys2Proof.Machine

/-- Go on with the next state, or stop as the first part stopped. -/
def andThen (r : Result) (k : State → Result) : Result :=
  match r with
  | .next s => k s
  | .fault f => .fault f
  | .refused f => .refused f

/-! Registers. -/

/-- `D[r]` (R20). -/
def State.dreg (s : State) (r : RegNo) : Long := s.d[r.val]

/-- `A[r]` (R21). -/
def State.areg (s : State) (r : RegNo) : Long := s.a[r.val]

/-- `D[r] <- v`. -/
def State.setD (r : RegNo) (v : Long) (s : State) : State := { s with d := s.d.set r.val v }

/-- `A[r] <- v`. -/
def State.setA (r : RegNo) (v : Long) (s : State) : State := { s with a := s.a.set r.val v }

/-- `D[r][bits(sz)-1:0] <- v` (R23). -/
def State.mergeD (sz : Size) (r : RegNo) (v : Long) (s : State) : State :=
  s.setD r (merge sz (s.dreg r) v)

/-- `R[n]` (R9, R23). -/
def State.xreg (s : State) (n : XRegNo) : Long :=
  if h : n.val < 8 then s.dreg ⟨n.val, h⟩ else s.areg ⟨n.val - 8, by omega⟩

/-- `R[n] <- v`. -/
def State.setX (n : XRegNo) (v : Long) (s : State) : State :=
  if h : n.val < 8 then s.setD ⟨n.val, h⟩ v else s.setA ⟨n.val - 8, by omega⟩ v

/-- The number of the active stack pointer (R22). -/
def spNo : RegNo := 7

/-- `SP` (R22). -/
def State.sp (s : State) : Long := s.areg spNo

/-- `SP <- v`. -/
def State.setSp (v : Long) (s : State) : State := s.setA spNo v

/-! The program counter. -/

/-- `PCB = 2*pc`, a byte address (R25, R26). -/
def State.pcb (s : State) : Long := s.pc ++ 0#1

/-- `pc <- target` for a byte address: bit 0 is dropped (R29). -/
def State.setPc (target : Long) (s : State) : State := { s with pc := target.extractLsb' 1 31 }

/-- Move past `n` words of the instruction stream (R28). -/
def State.consume (n : Nat) (s : State) : State := { s with pc := s.pc + BitVec.ofNat 31 n }

/-- `opaddr`, the byte address of the opcode word, while no word after it has been consumed (R27). -/
def State.opaddr (s : State) : Long := s.pcb - 2#32

/-! Memory. -/

/-- An address after the cutoff (R62). -/
def cutoff (c : Config) (a : Long) : Nat := (a &&& c.cutoffMask).toNat

/-- The address an access of size `sz` acts at: the cutoff, and for a word or a long the even address
below (R64 to R66, R69 to R71). -/
def accessAddr (c : Config) (sz : Size) (a : Long) : Nat :=
  match sz with
  | .b => cutoff c a
  | .w | .l => cutoff c a / 2 * 2

/-- `n` bytes of memory from an address on, the first the most significant (R63). -/
def readBytes (m : Memory) (sz : Size) (a : Nat) : Long :=
  match sz with
  | .b => (m.get a).setWidth 32
  | .w => (m.get a ++ m.get (a + 1)).setWidth 32
  | .l => m.get a ++ m.get (a + 1) ++ m.get (a + 2) ++ m.get (a + 3)

/-- The bytes of a value of size `sz`, the most significant first (R63). -/
def bytesOf (sz : Size) (v : Long) : List Byte :=
  match sz with
  | .b => [v.extractLsb' 0 8]
  | .w => [v.extractLsb' 8 8, v.extractLsb' 0 8]
  | .l => [v.extractLsb' 24 8, v.extractLsb' 16 8, v.extractLsb' 8 8, v.extractLsb' 0 8]

/-- `MemRead(addr, bytes(sz))` (R64 to R66): zero as a whole where it passes the readable boundary
(R68). -/
def State.memRead (s : State) (sz : Size) (a : Long) : Long :=
  if accessAddr s.config sz a + sizeBytes sz ≤ s.config.totalMemSize then
    readBytes s.mem sz (accessAddr s.config sz a)
  else 0#32

/-- Whether a write is stored (R69 to R71). -/
def State.writable (s : State) (sz : Size) (a : Long) : Bool :=
  decide (accessAddr s.config sz a + sizeBytes sz ≤ s.config.totalRamSize)

/-- The event of a stored write (R72). -/
def screenEvents (c : Config) (sz : Size) (a : Long) (v : Long) : List Event :=
  if c.screenStart ≤ accessAddr c sz a then [.screenWrite sz (accessAddr c sz a) (trunc sz v)] else []

/-- `MemWrite(addr, bytes(sz), v)` (R69 to R72): dropped as a whole where it passes the writable
boundary. -/
def State.memWrite (sz : Size) (a v : Long) (s : State) : State :=
  if s.writable sz a then
    { s with
      mem := s.mem.putBytes (accessAddr s.config sz a) (bytesOf sz v)
      events := s.events ++ screenEvents s.config sz a v }
  else s

/-- The stores of `HostBulkWrite` (R84), byte `i` at `dest + i`. -/
def bulkStore (c : Config) (dest : Long) (m : Memory) : List Byte → Memory
  | [] => m
  | b :: rest =>
    bulkStore c (dest + 1#32)
      (if cutoff c dest < c.totalMemSize then m.put (cutoff c dest) b else m) rest

/-- Whether `[dest, dest+len)` meets `[SCREEN_START, SCREEN_STOP)` (R84). -/
def meetsScreen (c : Config) (dest : Long) (len : Nat) : Bool :=
  decide (0 < len) && decide (c.screenStart < c.screenStop)
  && decide (dest.toNat < c.screenStop) && decide (c.screenStart < dest.toNat + len)

/-- `HostBulkWrite(dest, bytes)` (R84). -/
def State.bulkWrite (dest : Long) (bytes : List Byte) (s : State) : State :=
  { s with
    mem := bulkStore s.config dest s.mem bytes
    events := s.events ++
      (if meetsScreen s.config dest bytes.length then [.regionChanged dest bytes.length] else []) }

/-! The stack (R179). -/

/-- `push32(v)`. -/
def State.push32 (v : Long) (s : State) : State :=
  (s.setSp (s.sp - 4#32)).memWrite .l (s.sp - 4#32) v

/-- `push16(v)`. -/
def State.push16 (v : Word) (s : State) : State :=
  (s.setSp (s.sp - 2#32)).memWrite .w (s.sp - 2#32) (v.setWidth 32)

/-- The value `pop32()` returns. -/
def State.top32 (s : State) : Long := s.memRead .l s.sp

/-- The value `pop16()` returns. -/
def State.top16 (s : State) : Word := (s.memRead .w s.sp).setWidth 16

/-- The state after `pop32()`. -/
def State.drop32 (s : State) : State := s.setSp (s.sp + 4#32)

/-- The state after `pop16()`. -/
def State.drop16 (s : State) : State := s.setSp (s.sp + 2#32)

/-! The status register. -/

/-- Write the condition codes (`setCCR`, R35). -/
def State.setFlags (f : Flags) (s : State) : State := { s with sr := { s.sr with ccr := f } }

/-- The stack-pointer swap of R34, for a supervisor bit that becomes `sup`. -/
def State.swapStacks (sup : Bool) (s : State) : State :=
  if s.sr.s && !sup then { s with ssp := s.sp, a := s.a.set spNo.val s.usp }
  else if !s.sr.s && sup then { s with usp := s.sp, a := s.a.set spNo.val s.ssp }
  else s

/-- `setSR(v)` (R34). -/
def State.setSR (v : Word) (s : State) : State :=
  { s.swapStacks (StatusReg.ofWord v).s with
    sr := StatusReg.ofWord v
    traceEnabled := (StatusReg.ofWord v).t }

/-! Free values (R10). -/

/-- The `k`-th free bit from the counter on. -/
def State.freeBit (s : State) (k : Nat) : Bool := (Config.freeBits (s.draws + k)).getLsbD 0

/-- The `k`-th free long from the counter on. -/
def State.freeLong (s : State) (k : Nat) : Long := Config.freeBits (s.draws + k)

/-- Move the counter past `n` free values. -/
def State.advanceDraws (n : Nat) (s : State) : State := { s with draws := s.draws + n }

/-! Taking an exception. -/

/-- Vector numbers (R421). -/
def vecIllegal : Nat := 4
def vecZeroDivide : Nat := 5
def vecCheck : Nat := 6
def vecTrapV : Nat := 7
def vecPrivilege : Nat := 8
def vecTrace : Nat := 9
def vecLineA : Nat := 10
def vecLineF : Nat := 11
def vecUninit : Nat := 15
def vecTrapBase : Nat := 32

/-- The byte address of a vector (R78). -/
def vectorAddr (v : Nat) : Long := BitVec.ofNat 32 (4 * v)

/-- The target of a vector: its long, or that of vector 15 where it is zero (R428). -/
def State.vectorTarget (s : State) (v : Nat) : Long :=
  if s.memRead .l (vectorAddr v) = 0#32 then s.memRead .l (vectorAddr vecUninit)
  else s.memRead .l (vectorAddr v)

/-- Go to the target of a vector, or stop where it is zero (R428, R430). -/
def State.jumpVector (v : Nat) (s : State) : Result :=
  if s.vectorTarget v = 0#32 then .fault (.fatal v s) else .next (s.setPc (s.vectorTarget v))

/-- Enter supervisor mode with the swap of R428, the rest of the status register kept. -/
def State.toSupervisor (s : State) : State :=
  { s.swapStacks true with sr := { s.sr with s := true } }

/-- The frame of R425 on the supervisor stack: the status word as it was at `SP'`, the stacked address at
`SP' + 2`. -/
def State.pushFrame (ra : Long) (s : State) : State :=
  (s.toSupervisor.push32 ra).push16 s.sr.toWord

/-- The state in which the generic entry reads its vector (R428). -/
def State.entryState (s : State) : State :=
  { s.pushFrame s.pcb with
    sr := { s.sr with s := true, t := false }
    traceEnabled := false
    stopped := false }

/-- `raise Exception(v)` (R428). -/
def enterException (v : Nat) (s : State) : Result := s.entryState.jumpVector v

/-- The state in which the privilege path reads its vector (R431): the address of the instruction itself
is stacked, and the trace bit stays. -/
def State.privilegeState (s : State) : State :=
  { s.pushFrame s.opaddr with traceEnabled := s.sr.t }

/-- `raise PrivilegeViolation` (R431). -/
def privilegeViolation (s : State) : Result := s.privilegeState.jumpVector vecPrivilege

/-- The check of a privileged instruction (R340), before any extension word is consumed. -/
def privileged (k : State → Result) (s : State) : Result :=
  if s.sr.s then k s else privilegeViolation s

/-- The return of RTE (R347) in supervisor mode: the frame is popped, then the status register is
written, then the program counter. -/
def State.returnException (s : State) : State :=
  (((s.setSp (s.sp + 6#32)).setSR ((s.memRead .w s.sp).setWidth 16)).setPc
    (s.memRead .l (s.sp + 2#32)))

end Sys2Proof.Machine
end

