-- ==== Sys2Proof/Machine/Operands.lean ====
section
/-! DEFINITION. The addressing-mode resolver (spec/41_addressing_modes.md R160 to R180). -/

namespace Sys2Proof.Machine

/-- An operand location (R160). -/
inductive Loc where
  | dreg (r : RegNo)
  | areg (r : RegNo)
  | mem (addr : Long)
  | imm (v : Long)
deriving DecidableEq, Repr

/-- `inc(sz, reg)` (R174). -/
def incOf (sz : Size) (r : RegNo) : Long :=
  if sz = .b ∧ r = spNo then 2#32 else sizeStep sz

/-- The value of the index of a brief extension word (R175). -/
def State.indexValue (s : State) (x : Brief) : Long :=
  if x.isLong then s.xreg (if x.isAddr then xAddr x.xreg else xData x.xreg)
  else sext .w (s.xreg (if x.isAddr then xAddr x.xreg else xData x.xreg))

/-- The location of an operand, before the state moves on (R161 to R172, R176). `pc` stands at the
operand's first extension word. -/
def locate (ea : EA) (sz : Size) (s : State) : Loc :=
  match ea with
  | .dn r => .dreg r
  | .an r => .areg r
  | .ind r => .mem (s.areg r)
  | .postInc r => .mem (s.areg r)
  | .preDec r => .mem (s.areg r - incOf sz r)
  | .disp r d => .mem (s.areg r + d.signExtend 32)
  | .index r x => .mem (s.areg r + x.disp.signExtend 32 + s.indexValue x)
  | .absW a => .mem (a.signExtend 32)
  | .absL a => .mem a
  | .pcDisp d => .mem (s.pcb + d.signExtend 32)
  | .pcIndex x => .mem (s.pcb + x.disp.signExtend 32 + s.indexValue x)
  | .imm v => .imm v

/-- What resolving an operand does to the state: its extension words are consumed (R28) and the address
register of modes 3 and 4 moves (R164, R165). -/
def afterLocate (ea : EA) (sz : Size) (s : State) : State :=
  match ea with
  | .dn _ | .an _ | .ind _ => s
  | .postInc r => s.setA r (s.areg r + incOf sz r)
  | .preDec r => s.setA r (s.areg r - incOf sz r)
  | .disp _ _ | .index _ _ | .absW _ | .pcDisp _ | .pcIndex _ => s.consume 1
  | .absL _ => s.consume 2
  | .imm _ => s.consume (if sz = .l then 2 else 1)

/-- `readOp(loc, sz)` (R177). -/
def State.readOp (s : State) (loc : Loc) (sz : Size) : Long :=
  match loc with
  | .dreg r => trunc sz (s.dreg r)
  | .areg r => trunc sz (s.areg r)
  | .mem a => s.memRead sz a
  | .imm v => v

/-- `writeOp(loc, sz, v)` (R178); an immediate is never written (R172). -/
def State.writeOp (loc : Loc) (sz : Size) (v : Long) (s : State) : State :=
  match loc with
  | .dreg r => s.mergeD sz r v
  | .areg r => s.setA r (sext sz v)
  | .mem a => s.memWrite sz a v
  | .imm _ => s

/-- The address of a located operand, for LEA, PEA, JMP and JSR (R176); only memory has one. -/
def Loc.address : Loc → Long
  | .mem a => a
  | .dreg _ | .areg _ | .imm _ => 0#32

/-- `EA(mode, reg, sz)` (R176), resolved once (R180): go on with the location, in the state after. -/
def withOperand (ea : EA) (sz : Size) (s : State) (k : Loc → State → Result) : Result :=
  k (locate ea sz s) (afterLocate ea sz s)

/-- Resolve a source operand and read it completely (R180): go on with its value, in the state after. -/
def withSource (ea : EA) (sz : Size) (s : State) (k : Long → State → Result) : Result :=
  k ((afterLocate ea sz s).readOp (locate ea sz s) sz) (afterLocate ea sz s)

end Sys2Proof.Machine
end

