-- ==== Sys2Proof/Machine/Alu.lean ====
section
/-! DEFINITION. The two-operand operations that arithmetic and logic share (spec/44_integer_arithmetic.md
R241 to R249, spec/45_logic_shift_bit.md R281 to R288): one operation per operand form, over the operation
and the size. -/

namespace Sys2Proof.Machine

/-- ADD, SUB, AND, OR, EOR. -/
inductive AluOp where
  | add | sub | and | or | eor
deriving DecidableEq, Repr

/-- The result of an operation on a source and a destination of a size. -/
def aluResult (op : AluOp) (sz : Size) (src dst : Long) : Long :=
  match op with
  | .add => trunc sz (dst + src)
  | .sub => trunc sz (dst - src)
  | .and => dst &&& src
  | .or => dst ||| src
  | .eor => dst ^^^ src

/-- The flags of an operation (R191, R192, R195). -/
def aluFlags (op : AluOp) (old : Flags) (sz : Size) (src dst : Long) : Flags :=
  match op with
  | .add => flagsAdd sz src dst (aluResult .add sz src dst)
  | .sub => flagsSub sz src dst (aluResult .sub sz src dst)
  | .and | .or | .eor => flagsLogic old sz (aluResult op sz src dst)

/-- Read a located operand, operate on it, write it and the flags. -/
def aluApply (op : AluOp) (sz : Size) (src : Long) (loc : Loc) (s : State) : State :=
  (s.writeOp loc sz (aluResult op sz src (s.readOp loc sz))).setFlags
    (aluFlags op s.sr.ccr sz src (s.readOp loc sz))

/-- The number of extension words of an instruction's own immediate (R107). -/
def immediateWords (sz : Size) : Nat := if sz = .l then 2 else 1

/-- `op.sz #imm,ea` (R243, R248, R282, R285, R288): the immediate's words come first. -/
def aluImm (op : AluOp) (sz : Size) (imm : Long) (ea : EA) (s : State) : Result :=
  withOperand ea sz (s.consume (immediateWords sz)) fun loc s => .next (aluApply op sz imm loc s)

/-- `op.sz ea,Dn` (R241, R246, R281, R284). -/
def aluToReg (op : AluOp) (sz : Size) (ea : EA) (dn : RegNo) (s : State) : Result :=
  withSource ea sz s fun src s => .next (aluApply op sz src (.dreg dn) s)

/-- `op.sz Dn,ea` (R241, R246, R281, R284, R287). -/
def aluToEa (op : AluOp) (sz : Size) (dn : RegNo) (ea : EA) (s : State) : Result :=
  withOperand ea sz s fun loc s' => .next (aluApply op sz (trunc sz (s.dreg dn)) loc s')

/-- The value of the quick field: 1 to 7 as written, 0 means 8 (R109). -/
def quickValue (q : BitVec 3) : Long := if q = 0#3 then 8#32 else q.setWidth 32

/-- `op.sz #q,ea` (R244, R249): to an address register all 32 bits and no flag. -/
def aluQuick (op : AluOp) (sz : Size) (q : BitVec 3) (ea : EA) (s : State) : Result :=
  match ea with
  | .an r => .next (s.setA r (aluResult op .l (quickValue q) (s.areg r)))
  | _ => withOperand ea sz s fun loc s => .next (aluApply op sz (quickValue q) loc s)

end Sys2Proof.Machine
end

