-- ==== Sys2Proof/Machine/Arith.lean ====
section
/-! DEFINITION. Integer arithmetic (spec/44_integer_arithmetic.md): the operations, and the meaning of
each instruction. When a meaning runs, `pc` is past the opcode word (R27). -/

namespace Sys2Proof.Machine

/-- ADDA (R242): 32 bits, a word source sign-extended, no flag. -/
def addToAddress (sz : Size) (ea : EA) (an : RegNo) (s : State) : Result :=
  withSource ea sz s fun v s => .next (s.setA an (s.areg an + sext sz v))

/-- SUBA (R247). -/
def subFromAddress (sz : Size) (ea : EA) (an : RegNo) (s : State) : Result :=
  withSource ea sz s fun v s => .next (s.setA an (s.areg an - sext sz v))

/-- The flags of a compare of a source with a destination (R193): nothing else is written. -/
def compareWith (sz : Size) (src dst : Long) (s : State) : State :=
  s.setFlags (flagsCmp s.sr.ccr sz src dst (trunc sz (dst - src)))

/-- CMP (R251). -/
def compare (sz : Size) (ea : EA) (dn : RegNo) (s : State) : Result :=
  withSource ea sz s fun v s => .next (compareWith sz v (trunc sz (s.dreg dn)) s)

/-- CMPA (R252): always 32 bits wide. -/
def compareAddress (sz : Size) (ea : EA) (an : RegNo) (s : State) : Result :=
  withSource ea sz s fun v s => .next (compareWith .l (sext sz v) (s.areg an) s)

/-- CMPI (R253): the immediate's words come first. -/
def cmpImm (sz : Size) (imm : Long) (ea : EA) (s : State) : Result :=
  withSource ea sz (s.consume (immediateWords sz)) fun v s => .next (compareWith sz imm v s)

/-- CMPM (R254): `(Ay)+` first, then `(Ax)+`. -/
def compareMemory (sz : Size) (ay ax : RegNo) (s : State) : Result :=
  withSource (.postInc ay) sz s fun src s =>
    withSource (.postInc ax) sz s fun dst s => .next (compareWith sz src dst s)

/-- TST (R257). -/
def test (sz : Size) (ea : EA) (s : State) : Result :=
  withSource ea sz s fun v s => .next (s.setFlags (flagsLogic s.sr.ccr sz v))

/-- The result of NEG (R255). -/
def negResult (sz : Size) (d : Long) : Long := trunc sz (0#32 - d)

/-- NEG (R255). -/
def negate (sz : Size) (ea : EA) (s : State) : Result :=
  withOperand ea sz s fun loc s =>
    .next ((s.writeOp loc sz (negResult sz (s.readOp loc sz))).setFlags
      (flagsNeg sz (s.readOp loc sz) (negResult sz (s.readOp loc sz))))

/-- The extend bit as a number. -/
def xValue (x : Bool) : Long := if x then 1#32 else 0#32

/-- The result of NEGX (R256). -/
def negxResult (sz : Size) (d : Long) (x : Bool) : Long := trunc sz (0#32 - d - xValue x)

/-- NEGX (R256). -/
def negateX (sz : Size) (ea : EA) (s : State) : Result :=
  withOperand ea sz s fun loc s =>
    .next ((s.writeOp loc sz (negxResult sz (s.readOp loc sz) s.sr.ccr.x)).setFlags
      (flagsSubX s.sr.ccr sz (s.readOp loc sz) 0#32
        (negxResult sz (s.readOp loc sz) s.sr.ccr.x)))

/-- The two operations of the extended and the decimal families. -/
inductive ExtOp where
  | add | sub
deriving DecidableEq, Repr

/-- The result of ADDX and SUBX (R245, R250). -/
def extendedResult (op : ExtOp) (sz : Size) (src dst : Long) (x : Bool) : Long :=
  match op with
  | .add => trunc sz (dst + src + xValue x)
  | .sub => trunc sz (dst - src - xValue x)

/-- The flags of ADDX and SUBX (R194). -/
def extendedFlags (op : ExtOp) (old : Flags) (sz : Size) (src dst r : Long) : Flags :=
  match op with
  | .add => flagsAddX old sz src dst r
  | .sub => flagsSubX old sz src dst r

/-- ADDX and SUBX on a read source and a located destination. -/
def extendedApply (op : ExtOp) (sz : Size) (src : Long) (loc : Loc) (s : State) : State :=
  (s.writeOp loc sz (extendedResult op sz src (s.readOp loc sz) s.sr.ccr.x)).setFlags
    (extendedFlags op s.sr.ccr sz src (s.readOp loc sz)
      (extendedResult op sz src (s.readOp loc sz) s.sr.ccr.x))

/-- The operand access of the `RX_RY` format (R245): `Dy,Dx`, or `-(Ay)` first and then `-(Ax)`. -/
def withPair (sz : Size) (form : RxForm) (ry rx : RegNo) (s : State)
    (k : Long → Loc → State → Result) : Result :=
  match form with
  | .dreg => k (trunc sz (s.dreg ry)) (.dreg rx) s
  | .predec =>
    withSource (.preDec ry) sz s fun src s =>
      withOperand (.preDec rx) sz s fun loc s => k src loc s

/-- ADDX and SUBX (R245, R250). -/
def extended (op : ExtOp) (sz : Size) (form : RxForm) (ry rx : RegNo) (s : State) : Result :=
  withPair sz form ry rx s fun src loc s => .next (extendedApply op sz src loc s)

/-- MULU (R258): 16 by 16 to 32, exact. -/
def multiplyUnsigned (ea : EA) (dn : RegNo) (s : State) : Result :=
  withSource ea .w s fun v s =>
    .next ((s.setD dn (v * trunc .w (s.dreg dn))).setFlags
      (flagsLogic s.sr.ccr .l (v * trunc .w (s.dreg dn))))

/-- MULS (R259). -/
def multiplySigned (ea : EA) (dn : RegNo) (s : State) : Result :=
  withSource ea .w s fun v s =>
    .next ((s.setD dn (sext .w v * sext .w (s.dreg dn))).setFlags
      (flagsLogic s.sr.ccr .l (sext .w v * sext .w (s.dreg dn))))

/-- Zero divide (R260, R261): `N`, `Z`, `V` are free values, `C` is cleared, vector 5 is taken. -/
def zeroDivide (s : State) : Result :=
  enterException vecZeroDivide
    ((s.setFlags ⟨s.sr.ccr.x, s.freeBit 0, s.freeBit 1, s.freeBit 2, false⟩).advanceDraws 3)

/-- Division overflow (R260, R261): `V` is set, `C` cleared, `N` and `Z` are free values, the destination
is unchanged. -/
def divideOverflow (s : State) : State :=
  (s.setFlags ⟨s.sr.ccr.x, s.freeBit 0, s.freeBit 1, true, false⟩).advanceDraws 2

/-- A quotient and a remainder that fit (R260, R261): remainder above quotient. -/
def divideFits (dn : RegNo) (q m : Int) (s : State) : State :=
  (s.setD dn (BitVec.ofInt 16 m ++ BitVec.ofInt 16 q)).setFlags
    ⟨s.sr.ccr.x, (BitVec.ofInt 16 q).getLsbD 15, decide (q = 0), false, false⟩

/-- DIVU (R260). -/
def divideUnsigned (ea : EA) (dn : RegNo) (s : State) : Result :=
  withSource ea .w s fun v s =>
    if v = 0#32 then zeroDivide s
    else if 0xFFFF < (s.dreg dn).toNat / v.toNat then .next (divideOverflow s)
    else .next (divideFits dn ((s.dreg dn).toNat / v.toNat : Nat) ((s.dreg dn).toNat % v.toNat : Nat) s)

/-- DIVS (R261): toward zero, the remainder with the sign of the dividend. -/
def divideSigned (ea : EA) (dn : RegNo) (s : State) : Result :=
  withSource ea .w s fun v s =>
    if v = 0#32 then zeroDivide s
    else if (s.dreg dn).toInt.tdiv (signedOf .w v) < -32768
        ∨ 32767 < (s.dreg dn).toInt.tdiv (signedOf .w v) then .next (divideOverflow s)
    else .next (divideFits dn ((s.dreg dn).toInt.tdiv (signedOf .w v))
      ((s.dreg dn).toInt.tmod (signedOf .w v)) s)

/-- `bcdAdd(s, d, x)` (R265). Its `t` is an integer: less 0xA0 it is negative where a digit of an operand
was above 9 and `t` is 0x9A to 0x9F (D17, log 24). -/
def bcdAdd (s d : Nat) (x : Bool) : Nat × Bool :=
  let lo : Int := (s % 16 : Nat) + (d % 16 : Nat) + (x.toNat : Nat)
  let t : Int := (s / 16 * 16 : Nat) + (d / 16 * 16 : Nat) + lo
  let t' := if 9 < lo then t + 6 else t
  if 0x99 < t' then (((t' - 0xA0) % 256).toNat, true) else ((t' % 256).toNat, false)

/-- `bcdSub(s, d, x)`: `d - s - x` (R265). -/
def bcdSub (s d : Nat) (x : Bool) : Nat × Bool :=
  let lo : Int := (d % 16 : Nat) - (s % 16 : Nat) - (x.toNat : Nat)
  let t : Int := (d / 16 * 16 : Nat) - (s / 16 * 16 : Nat) + lo
  let t' := if lo < 0 then t - 6 else t
  if t' < 0 then (((t' + 0xA0) % 256).toNat, true) else ((t' % 256).toNat, false)

/-- The decimal operation of ABCD and SBCD (R262, R263). -/
def decimalResult (op : ExtOp) (src dst : Long) (x : Bool) : Nat × Bool :=
  match op with
  | .add => bcdAdd src.toNat dst.toNat x
  | .sub => bcdSub src.toNat dst.toNat x

/-- Write a decimal result and its flags (R265). -/
def writeDecimal (loc : Loc) (r : Nat × Bool) (s : State) : State :=
  ((s.writeOp loc .b (BitVec.ofNat 32 r.1)).setFlags
    (flagsBcd s.sr.ccr (BitVec.ofNat 32 r.1) r.2 (s.freeBit 0) (s.freeBit 1))).advanceDraws 2

/-- ABCD and SBCD (R262, R263). -/
def decimal (op : ExtOp) (form : RxForm) (ry rx : RegNo) (s : State) : Result :=
  withPair .b form ry rx s fun src loc s =>
    .next (writeDecimal loc (decimalResult op src (s.readOp loc .b) s.sr.ccr.x) s)

/-- NBCD (R264): zero minus the operand minus `X`. -/
def negateDecimal (ea : EA) (s : State) : Result :=
  withOperand ea .b s fun loc s =>
    .next (writeDecimal loc (bcdSub (s.readOp loc .b).toNat 0 s.sr.ccr.x) s)

/-- `SUBI.B #imm,ea` (R248). -/
def execSubiB (imm : Byte) (ea : EA) (s : State) : Result :=
  aluImm .sub .b (imm.setWidth 32) ea s

/-- `SUBI.W #imm,ea` (R248). -/
def execSubiW (imm : Word) (ea : EA) (s : State) : Result :=
  aluImm .sub .w (imm.setWidth 32) ea s

/-- `SUBI.L #imm,ea` (R248). -/
def execSubiL (imm : Long) (ea : EA) (s : State) : Result :=
  aluImm .sub .l imm ea s

/-- `ADDI.B #imm,ea` (R243). -/
def execAddiB (imm : Byte) (ea : EA) (s : State) : Result :=
  aluImm .add .b (imm.setWidth 32) ea s

/-- `ADDI.W #imm,ea` (R243). -/
def execAddiW (imm : Word) (ea : EA) (s : State) : Result :=
  aluImm .add .w (imm.setWidth 32) ea s

/-- `ADDI.L #imm,ea` (R243). -/
def execAddiL (imm : Long) (ea : EA) (s : State) : Result :=
  aluImm .add .l imm ea s

/-- `CMPI.B #imm,ea` (R253). -/
def execCmpiB (imm : Byte) (ea : EA) (s : State) : Result :=
  cmpImm .b (imm.setWidth 32) ea s

/-- `CMPI.W #imm,ea` (R253). -/
def execCmpiW (imm : Word) (ea : EA) (s : State) : Result :=
  cmpImm .w (imm.setWidth 32) ea s

/-- `CMPI.L #imm,ea` (R253). -/
def execCmpiL (imm : Long) (ea : EA) (s : State) : Result :=
  cmpImm .l imm ea s

/-- `NEGX.B ea` (R256). -/
def execNegxB (ea : EA) (s : State) : Result :=
  negateX .b ea s

/-- `NEGX.W ea` (R256). -/
def execNegxW (ea : EA) (s : State) : Result :=
  negateX .w ea s

/-- `NEGX.L ea` (R256). -/
def execNegxL (ea : EA) (s : State) : Result :=
  negateX .l ea s

/-- `NEG.B ea` (R255). -/
def execNegB (ea : EA) (s : State) : Result :=
  negate .b ea s

/-- `NEG.W ea` (R255). -/
def execNegW (ea : EA) (s : State) : Result :=
  negate .w ea s

/-- `NEG.L ea` (R255). -/
def execNegL (ea : EA) (s : State) : Result :=
  negate .l ea s

/-- `NBCD ea` (R264). -/
def execNbcd (ea : EA) (s : State) : Result :=
  negateDecimal ea s

/-- `TST.B ea` (R257). -/
def execTstB (ea : EA) (s : State) : Result :=
  test .b ea s

/-- `TST.W ea` (R257). -/
def execTstW (ea : EA) (s : State) : Result :=
  test .w ea s

/-- `TST.L ea` (R257). -/
def execTstL (ea : EA) (s : State) : Result :=
  test .l ea s

/-- `ADDQ.B #q,ea` (R244). -/
def execAddqB (q : BitVec 3) (ea : EA) (s : State) : Result :=
  aluQuick .add .b q ea s

/-- `ADDQ.W #q,ea` (R244). -/
def execAddqW (q : BitVec 3) (ea : EA) (s : State) : Result :=
  aluQuick .add .w q ea s

/-- `ADDQ.L #q,ea` (R244). -/
def execAddqL (q : BitVec 3) (ea : EA) (s : State) : Result :=
  aluQuick .add .l q ea s

/-- `SUBQ.B #q,ea` (R249). -/
def execSubqB (q : BitVec 3) (ea : EA) (s : State) : Result :=
  aluQuick .sub .b q ea s

/-- `SUBQ.W #q,ea` (R249). -/
def execSubqW (q : BitVec 3) (ea : EA) (s : State) : Result :=
  aluQuick .sub .w q ea s

/-- `SUBQ.L #q,ea` (R249). -/
def execSubqL (q : BitVec 3) (ea : EA) (s : State) : Result :=
  aluQuick .sub .l q ea s

/-- `DIVU.W ea,Dn` (R260). -/
def execDivu (ea : EA) (dn : RegNo) (s : State) : Result :=
  divideUnsigned ea dn s

/-- `SBCD Dy,Dx` and `SBCD -(Ay),-(Ax)` (R263). -/
def execSbcd (form : RxForm) (ry : RegNo) (rx : RegNo) (s : State) : Result :=
  decimal .sub form ry rx s

/-- `DIVS.W ea,Dn` (R261). -/
def execDivs (ea : EA) (dn : RegNo) (s : State) : Result :=
  divideSigned ea dn s

/-- `SUB.B ea,Dn` (R246). -/
def execSubEaDnB (ea : EA) (dn : RegNo) (s : State) : Result :=
  aluToReg .sub .b ea dn s

/-- `SUB.W ea,Dn` (R246). -/
def execSubEaDnW (ea : EA) (dn : RegNo) (s : State) : Result :=
  aluToReg .sub .w ea dn s

/-- `SUB.L ea,Dn` (R246). -/
def execSubEaDnL (ea : EA) (dn : RegNo) (s : State) : Result :=
  aluToReg .sub .l ea dn s

/-- `SUBA.W ea,An` (R247). -/
def execSubaW (ea : EA) (an : RegNo) (s : State) : Result :=
  subFromAddress .w ea an s

/-- `SUBX.B Dy,Dx` and `SUBX.B -(Ay),-(Ax)` (R250). -/
def execSubxB (form : RxForm) (ry : RegNo) (rx : RegNo) (s : State) : Result :=
  extended .sub .b form ry rx s

/-- `SUBX.W Dy,Dx` and `SUBX.W -(Ay),-(Ax)` (R250). -/
def execSubxW (form : RxForm) (ry : RegNo) (rx : RegNo) (s : State) : Result :=
  extended .sub .w form ry rx s

/-- `SUBX.L Dy,Dx` and `SUBX.L -(Ay),-(Ax)` (R250). -/
def execSubxL (form : RxForm) (ry : RegNo) (rx : RegNo) (s : State) : Result :=
  extended .sub .l form ry rx s

/-- `SUB.B Dn,ea` (R246). -/
def execSubDnEaB (dn : RegNo) (ea : EA) (s : State) : Result :=
  aluToEa .sub .b dn ea s

/-- `SUB.W Dn,ea` (R246). -/
def execSubDnEaW (dn : RegNo) (ea : EA) (s : State) : Result :=
  aluToEa .sub .w dn ea s

/-- `SUB.L Dn,ea` (R246). -/
def execSubDnEaL (dn : RegNo) (ea : EA) (s : State) : Result :=
  aluToEa .sub .l dn ea s

/-- `SUBA.L ea,An` (R247). -/
def execSubaL (ea : EA) (an : RegNo) (s : State) : Result :=
  subFromAddress .l ea an s

/-- `CMP.B ea,Dn` (R251). -/
def execCmpB (ea : EA) (dn : RegNo) (s : State) : Result :=
  compare .b ea dn s

/-- `CMP.W ea,Dn` (R251). -/
def execCmpW (ea : EA) (dn : RegNo) (s : State) : Result :=
  compare .w ea dn s

/-- `CMP.L ea,Dn` (R251). -/
def execCmpL (ea : EA) (dn : RegNo) (s : State) : Result :=
  compare .l ea dn s

/-- `CMPA.W ea,An` (R252). -/
def execCmpaW (ea : EA) (an : RegNo) (s : State) : Result :=
  compareAddress .w ea an s

/-- `CMPM.B (Ay)+,(Ax)+` (R254). -/
def execCmpmB (ay : RegNo) (ax : RegNo) (s : State) : Result :=
  compareMemory .b ay ax s

/-- `CMPM.W (Ay)+,(Ax)+` (R254). -/
def execCmpmW (ay : RegNo) (ax : RegNo) (s : State) : Result :=
  compareMemory .w ay ax s

/-- `CMPM.L (Ay)+,(Ax)+` (R254). -/
def execCmpmL (ay : RegNo) (ax : RegNo) (s : State) : Result :=
  compareMemory .l ay ax s

/-- `CMPA.L ea,An` (R252). -/
def execCmpaL (ea : EA) (an : RegNo) (s : State) : Result :=
  compareAddress .l ea an s

/-- `MULU.W ea,Dn` (R258). -/
def execMulu (ea : EA) (dn : RegNo) (s : State) : Result :=
  multiplyUnsigned ea dn s

/-- `ABCD Dy,Dx` and `ABCD -(Ay),-(Ax)` (R262). -/
def execAbcd (form : RxForm) (ry : RegNo) (rx : RegNo) (s : State) : Result :=
  decimal .add form ry rx s

/-- `MULS.W ea,Dn` (R259). -/
def execMuls (ea : EA) (dn : RegNo) (s : State) : Result :=
  multiplySigned ea dn s

/-- `ADD.B ea,Dn` (R241). -/
def execAddEaDnB (ea : EA) (dn : RegNo) (s : State) : Result :=
  aluToReg .add .b ea dn s

/-- `ADD.W ea,Dn` (R241). -/
def execAddEaDnW (ea : EA) (dn : RegNo) (s : State) : Result :=
  aluToReg .add .w ea dn s

/-- `ADD.L ea,Dn` (R241). -/
def execAddEaDnL (ea : EA) (dn : RegNo) (s : State) : Result :=
  aluToReg .add .l ea dn s

/-- `ADDA.W ea,An` (R242). -/
def execAddaW (ea : EA) (an : RegNo) (s : State) : Result :=
  addToAddress .w ea an s

/-- `ADDX.B Dy,Dx` and `ADDX.B -(Ay),-(Ax)` (R245). -/
def execAddxB (form : RxForm) (ry : RegNo) (rx : RegNo) (s : State) : Result :=
  extended .add .b form ry rx s

/-- `ADDX.W Dy,Dx` and `ADDX.W -(Ay),-(Ax)` (R245). -/
def execAddxW (form : RxForm) (ry : RegNo) (rx : RegNo) (s : State) : Result :=
  extended .add .w form ry rx s

/-- `ADDX.L Dy,Dx` and `ADDX.L -(Ay),-(Ax)` (R245). -/
def execAddxL (form : RxForm) (ry : RegNo) (rx : RegNo) (s : State) : Result :=
  extended .add .l form ry rx s

/-- `ADD.B Dn,ea` (R241). -/
def execAddDnEaB (dn : RegNo) (ea : EA) (s : State) : Result :=
  aluToEa .add .b dn ea s

/-- `ADD.W Dn,ea` (R241). -/
def execAddDnEaW (dn : RegNo) (ea : EA) (s : State) : Result :=
  aluToEa .add .w dn ea s

/-- `ADD.L Dn,ea` (R241). -/
def execAddDnEaL (dn : RegNo) (ea : EA) (s : State) : Result :=
  aluToEa .add .l dn ea s

/-- `ADDA.L ea,An` (R242). -/
def execAddaL (ea : EA) (an : RegNo) (s : State) : Result :=
  addToAddress .l ea an s

end Sys2Proof.Machine
end

