-- ==== Sys2Proof/Machine/BitOps.lean ====
section
/-! DEFINITION. Bit instructions, TAS and Scc (spec/45_logic_shift_bit.md R301 to R310): the operations,
and the meaning of each instruction. When a meaning runs, `pc` is past the opcode word (R27). -/

namespace Sys2Proof.Machine

/-- BTST, BCHG, BCLR, BSET. -/
inductive BitOp where
  | tst | chg | clr | set
deriving DecidableEq, Repr

/-- The value with bit `k` changed (R301). -/
def bitChanged (op : BitOp) (k : Nat) (v : Long) : Long :=
  match op with
  | .tst => v
  | .chg => v ^^^ (1#32 <<< k)
  | .clr => v &&& ~~~ (1#32 <<< k)
  | .set => v ||| (1#32 <<< k)

/-- `Z` is set when the tested bit is 0; the other flags are kept (R301). -/
def bitFlags (old : Flags) (k : Nat) (v : Long) : Flags := { old with z := !v.getLsbD k }

/-- The bit operation on a located operand of a size; BTST writes nothing. -/
def bitApply (op : BitOp) (sz : Size) (k : Nat) (loc : Loc) (s : State) : State :=
  (if op = .tst then s else s.writeOp loc sz (bitChanged op k (s.readOp loc sz))).setFlags
    (bitFlags s.sr.ccr k (s.readOp loc sz))

/-- The bit operation with a bit number (R301): modulo 32 on a data register, modulo 8 on a byte of
memory. -/
def bitOperate (op : BitOp) (b : Nat) (ea : EA) (s : State) : Result :=
  match ea with
  | .dn r => .next (bitApply op .l (b % 32) (.dreg r) s)
  | _ => withOperand ea .b s fun loc s => .next (bitApply op .b (b % 8) loc s)

/-- The dynamic form: the bit number is a data register (R301). -/
def bitReg (op : BitOp) (dn : RegNo) (ea : EA) (s : State) : Result :=
  bitOperate op (s.dreg dn).toNat ea s

/-- The static form: the bit number is the low byte of an extension word, which comes first (R301). -/
def bitImm (op : BitOp) (bit : Byte) (ea : EA) (s : State) : Result :=
  bitOperate op bit.toNat ea (s.consume 1)

/-- TAS (R309): the flags of the value before bit 7 is set. -/
def testAndSet (ea : EA) (s : State) : Result :=
  withOperand ea .b s fun loc s =>
    .next ((s.writeOp loc .b (s.readOp loc .b ||| 0x80#32)).setFlags
      (flagsLogic s.sr.ccr .b (s.readOp loc .b)))

/-- Scc (R310). -/
def setOnCondition (k : Cond) (ea : EA) (s : State) : Result :=
  withOperand ea .b s fun loc s =>
    .next (s.writeOp loc .b (if k.holds s.sr.ccr then 0xFF#32 else 0#32))

/-- `BTST #n,ea` (R302). -/
def execBtstImm (bit : Byte) (ea : EA) (s : State) : Result :=
  bitImm .tst bit ea s

/-- `BCHG #n,ea` (R303). -/
def execBchgImm (bit : Byte) (ea : EA) (s : State) : Result :=
  bitImm .chg bit ea s

/-- `BCLR #n,ea` (R304). -/
def execBclrImm (bit : Byte) (ea : EA) (s : State) : Result :=
  bitImm .clr bit ea s

/-- `BSET #n,ea` (R305). -/
def execBsetImm (bit : Byte) (ea : EA) (s : State) : Result :=
  bitImm .set bit ea s

/-- `BTST Dn,ea` (R302). -/
def execBtstReg (dn : RegNo) (ea : EA) (s : State) : Result :=
  bitReg .tst dn ea s

/-- `BCHG Dn,ea` (R303). -/
def execBchgReg (dn : RegNo) (ea : EA) (s : State) : Result :=
  bitReg .chg dn ea s

/-- `BCLR Dn,ea` (R304). -/
def execBclrReg (dn : RegNo) (ea : EA) (s : State) : Result :=
  bitReg .clr dn ea s

/-- `BSET Dn,ea` (R305). -/
def execBsetReg (dn : RegNo) (ea : EA) (s : State) : Result :=
  bitReg .set dn ea s

/-- `TAS ea` (R309). -/
def execTas (ea : EA) (s : State) : Result :=
  testAndSet ea s

/-- `ST ea` (R310). -/
def execSt (ea : EA) (s : State) : Result :=
  setOnCondition .t ea s

/-- `SF ea` (R310). -/
def execSf (ea : EA) (s : State) : Result :=
  setOnCondition .f ea s

/-- `SHI ea` (R310). -/
def execShi (ea : EA) (s : State) : Result :=
  setOnCondition .hi ea s

/-- `SLS ea` (R310). -/
def execSls (ea : EA) (s : State) : Result :=
  setOnCondition .ls ea s

/-- `SCC ea` (R310). -/
def execScc (ea : EA) (s : State) : Result :=
  setOnCondition .cc ea s

/-- `SCS ea` (R310). -/
def execScs (ea : EA) (s : State) : Result :=
  setOnCondition .cs ea s

/-- `SNE ea` (R310). -/
def execSne (ea : EA) (s : State) : Result :=
  setOnCondition .ne ea s

/-- `SEQ ea` (R310). -/
def execSeq (ea : EA) (s : State) : Result :=
  setOnCondition .eq ea s

/-- `SVC ea` (R310). -/
def execSvc (ea : EA) (s : State) : Result :=
  setOnCondition .vc ea s

/-- `SVS ea` (R310). -/
def execSvs (ea : EA) (s : State) : Result :=
  setOnCondition .vs ea s

/-- `SPL ea` (R310). -/
def execSpl (ea : EA) (s : State) : Result :=
  setOnCondition .pl ea s

/-- `SMI ea` (R310). -/
def execSmi (ea : EA) (s : State) : Result :=
  setOnCondition .mi ea s

/-- `SGE ea` (R310). -/
def execSge (ea : EA) (s : State) : Result :=
  setOnCondition .ge ea s

/-- `SLT ea` (R310). -/
def execSlt (ea : EA) (s : State) : Result :=
  setOnCondition .lt ea s

/-- `SGT ea` (R310). -/
def execSgt (ea : EA) (s : State) : Result :=
  setOnCondition .gt ea s

/-- `SLE ea` (R310). -/
def execSle (ea : EA) (s : State) : Result :=
  setOnCondition .le ea s

end Sys2Proof.Machine
end

