-- ==== Sys2Proof/Machine/Control.lean ====
section
/-! DEFINITION. Control flow (spec/46_control_flow.md): the operations, and the meaning of each
instruction. When a meaning runs, `pc` is past the opcode word (R27), so that `2*pc` is `opaddr + 2`. -/

namespace Sys2Proof.Machine

/-- A branch displacement as a long (R109). -/
def branchOffset : BranchDisp → Long
  | .short d => d.signExtend 32
  | .word d => d.signExtend 32

/-- The target of a branch (R321): the base is `opaddr + 2` in both forms. -/
def branchTarget (d : BranchDisp) (s : State) : Long := s.pcb + branchOffset d

/-- BRA (R321). -/
def branchAlways (d : BranchDisp) (s : State) : Result := .next (s.setPc (branchTarget d s))

/-- BSR (R322): the address after the extension word is pushed. -/
def branchSubroutine (d : BranchDisp) (s : State) : Result :=
  .next (((s.consume d.words).push32 (s.consume d.words).pcb).setPc (branchTarget d s))

/-- Bcc (R323): the extension word is consumed either way. -/
def branchIf (k : Cond) (d : BranchDisp) (s : State) : Result :=
  if k.holds s.sr.ccr then .next (s.setPc (branchTarget d s)) else .next (s.consume d.words)

/-- The low word of a counter minus one (R324). -/
def counterLess (v : Long) : Word := v.setWidth 16 - 1#16

/-- DBcc (R324). -/
def decrementBranch (k : Cond) (dn : RegNo) (disp : Word) (s : State) : Result :=
  if k.holds s.sr.ccr then .next (s.consume 1)
  else if counterLess (s.dreg dn) = 0xFFFF#16 then
    .next ((s.consume 1).mergeD .w dn ((counterLess (s.dreg dn)).setWidth 32))
  else
    .next (((s.consume 1).mergeD .w dn ((counterLess (s.dreg dn)).setWidth 32)).setPc
      (s.pcb + disp.signExtend 32))

/-- JMP (R325). -/
def jump (ea : EA) (s : State) : Result :=
  withOperand ea .l s fun loc s => .next (s.setPc loc.address)

/-- JSR (R326): the address is computed before the push. -/
def jumpSubroutine (ea : EA) (s : State) : Result :=
  withOperand ea .l s fun loc s => .next ((s.push32 s.pcb).setPc loc.address)

/-- RTS (R327). -/
def returnSubroutine (s : State) : Result := .next (s.drop32.setPc s.top32)

/-- RTR (R328): the condition codes, then the return address. -/
def returnRestore (s : State) : Result :=
  .next ((s.drop16.drop32.setFlags (Flags.ofByte (s.top16.setWidth 8))).setPc s.drop16.top32)

/-- `NOP` (R331). -/
def execNop (s : State) : Result :=
  .next s

/-- `RTS` (R327). -/
def execRts (s : State) : Result :=
  returnSubroutine s

/-- `RTR` (R328). -/
def execRtr (s : State) : Result :=
  returnRestore s

/-- `JSR ea` (R326). -/
def execJsr (ea : EA) (s : State) : Result :=
  jumpSubroutine ea s

/-- `JMP ea` (R325). -/
def execJmp (ea : EA) (s : State) : Result :=
  jump ea s

/-- `DBT Dn,label` (R324). -/
def execDbt (dn : RegNo) (disp : Word) (s : State) : Result :=
  decrementBranch .t dn disp s

/-- `DBF Dn,label` (R324). -/
def execDbf (dn : RegNo) (disp : Word) (s : State) : Result :=
  decrementBranch .f dn disp s

/-- `DBHI Dn,label` (R324). -/
def execDbhi (dn : RegNo) (disp : Word) (s : State) : Result :=
  decrementBranch .hi dn disp s

/-- `DBLS Dn,label` (R324). -/
def execDbls (dn : RegNo) (disp : Word) (s : State) : Result :=
  decrementBranch .ls dn disp s

/-- `DBCC Dn,label` (R324). -/
def execDbcc (dn : RegNo) (disp : Word) (s : State) : Result :=
  decrementBranch .cc dn disp s

/-- `DBCS Dn,label` (R324). -/
def execDbcs (dn : RegNo) (disp : Word) (s : State) : Result :=
  decrementBranch .cs dn disp s

/-- `DBNE Dn,label` (R324). -/
def execDbne (dn : RegNo) (disp : Word) (s : State) : Result :=
  decrementBranch .ne dn disp s

/-- `DBEQ Dn,label` (R324). -/
def execDbeq (dn : RegNo) (disp : Word) (s : State) : Result :=
  decrementBranch .eq dn disp s

/-- `DBVC Dn,label` (R324). -/
def execDbvc (dn : RegNo) (disp : Word) (s : State) : Result :=
  decrementBranch .vc dn disp s

/-- `DBVS Dn,label` (R324). -/
def execDbvs (dn : RegNo) (disp : Word) (s : State) : Result :=
  decrementBranch .vs dn disp s

/-- `DBPL Dn,label` (R324). -/
def execDbpl (dn : RegNo) (disp : Word) (s : State) : Result :=
  decrementBranch .pl dn disp s

/-- `DBMI Dn,label` (R324). -/
def execDbmi (dn : RegNo) (disp : Word) (s : State) : Result :=
  decrementBranch .mi dn disp s

/-- `DBGE Dn,label` (R324). -/
def execDbge (dn : RegNo) (disp : Word) (s : State) : Result :=
  decrementBranch .ge dn disp s

/-- `DBLT Dn,label` (R324). -/
def execDblt (dn : RegNo) (disp : Word) (s : State) : Result :=
  decrementBranch .lt dn disp s

/-- `DBGT Dn,label` (R324). -/
def execDbgt (dn : RegNo) (disp : Word) (s : State) : Result :=
  decrementBranch .gt dn disp s

/-- `DBLE Dn,label` (R324). -/
def execDble (dn : RegNo) (disp : Word) (s : State) : Result :=
  decrementBranch .le dn disp s

/-- `BRA label` (R321). -/
def execBra (d : BranchDisp) (s : State) : Result :=
  branchAlways d s

/-- `BSR label` (R322). -/
def execBsr (d : BranchDisp) (s : State) : Result :=
  branchSubroutine d s

/-- `BHI label` (R323). -/
def execBhi (d : BranchDisp) (s : State) : Result :=
  branchIf .hi d s

/-- `BLS label` (R323). -/
def execBls (d : BranchDisp) (s : State) : Result :=
  branchIf .ls d s

/-- `BCC label` (R323). -/
def execBcc (d : BranchDisp) (s : State) : Result :=
  branchIf .cc d s

/-- `BCS label` (R323). -/
def execBcs (d : BranchDisp) (s : State) : Result :=
  branchIf .cs d s

/-- `BNE label` (R323). -/
def execBne (d : BranchDisp) (s : State) : Result :=
  branchIf .ne d s

/-- `BEQ label` (R323). -/
def execBeq (d : BranchDisp) (s : State) : Result :=
  branchIf .eq d s

/-- `BVC label` (R323). -/
def execBvc (d : BranchDisp) (s : State) : Result :=
  branchIf .vc d s

/-- `BVS label` (R323). -/
def execBvs (d : BranchDisp) (s : State) : Result :=
  branchIf .vs d s

/-- `BPL label` (R323). -/
def execBpl (d : BranchDisp) (s : State) : Result :=
  branchIf .pl d s

/-- `BMI label` (R323). -/
def execBmi (d : BranchDisp) (s : State) : Result :=
  branchIf .mi d s

/-- `BGE label` (R323). -/
def execBge (d : BranchDisp) (s : State) : Result :=
  branchIf .ge d s

/-- `BLT label` (R323). -/
def execBlt (d : BranchDisp) (s : State) : Result :=
  branchIf .lt d s

/-- `BGT label` (R323). -/
def execBgt (d : BranchDisp) (s : State) : Result :=
  branchIf .gt d s

/-- `BLE label` (R323). -/
def execBle (d : BranchDisp) (s : State) : Result :=
  branchIf .le d s

end Sys2Proof.Machine
end

