-- ==== Sys2Proof/Machine/DataMove.lean ====
section
/-! DEFINITION. Data movement (spec/43_data_movement.md): the operations, and the meaning of each
instruction. When a meaning runs, `pc` is past the opcode word (R27). -/

namespace Sys2Proof.Machine

/-- MOVE (R211): the source is read before the destination is resolved. -/
def moveData (sz : Size) (src dst : EA) (s : State) : Result :=
  withSource src sz s fun v s =>
    withOperand dst sz s fun loc s =>
      .next ((s.writeOp loc sz v).setFlags (flagsLogic s.sr.ccr sz v))

/-- MOVEA (R212): all 32 bits are written, a word sign-extended, no flag. -/
def moveAddress (sz : Size) (src : EA) (an : RegNo) (s : State) : Result :=
  withSource src sz s fun v s => .next (s.setA an (sext sz v))

/-- MOVEQ (R213). -/
def moveQuick (dn : RegNo) (data : Byte) (s : State) : Result :=
  .next ((s.setD dn (data.signExtend 32)).setFlags (flagsLogic s.sr.ccr .l (data.signExtend 32)))

/-- The registers a mask selects, bit 0 first, as bit numbers (R110, R216). -/
def maskBits (mask : Word) : List XRegNo := (List.finRange 16).filter (fun i => mask.getLsbD i.val)

/-- The register that bit `i` of a pre-decrement mask names (R110). -/
def mirror (i : XRegNo) : XRegNo := ⟨15 - i.val, by omega⟩

/-- MOVEM stores at descending addresses (R214); the values are those of `s₀`. Answers the last address and
the state. -/
def storeDown (sz : Size) (s₀ : State) : List XRegNo → Long → State → Long × State
  | [], a, s => (a, s)
  | i :: rest, a, s =>
    storeDown sz s₀ rest (a - sizeStep sz)
      (s.memWrite sz (a - sizeStep sz) (trunc sz (s₀.xreg (mirror i))))

/-- MOVEM stores at ascending addresses (R214); the values are those of `s₀`. -/
def storeUp (sz : Size) (s₀ : State) : List XRegNo → Long → State → State
  | [], _, s => s
  | i :: rest, a, s =>
    storeUp sz s₀ rest (a + sizeStep sz) (s.memWrite sz a (trunc sz (s₀.xreg i)))

/-- MOVEM registers to memory (R214): the mask word comes before the address's words. -/
def movemStore (sz : Size) (mask : Word) (ea : EA) (s : State) : Result :=
  match ea with
  | .preDec r =>
    .next ((storeDown sz s (maskBits mask) (s.areg r) (s.consume 1)).2.setA r
      (storeDown sz s (maskBits mask) (s.areg r) (s.consume 1)).1)
  | _ =>
    withOperand ea sz (s.consume 1) fun loc s' =>
      .next (storeUp sz s (maskBits mask) loc.address s')

/-- MOVEM loads at ascending addresses (R215): whole registers, a word sign-extended. Answers the last
address and the state. -/
def loadUp (sz : Size) : List XRegNo → Long → State → Long × State
  | [], a, s => (a, s)
  | i :: rest, a, s => loadUp sz rest (a + sizeStep sz) (s.setX i (sext sz (s.memRead sz a)))

/-- MOVEM memory to registers (R215). -/
def movemLoad (sz : Size) (mask : Word) (ea : EA) (s : State) : Result :=
  match ea with
  | .postInc r =>
    .next ((loadUp sz (maskBits mask) (s.areg r) (s.consume 1)).2.setA r
      (loadUp sz (maskBits mask) (s.areg r) (s.consume 1)).1)
  | _ =>
    withOperand ea sz (s.consume 1) fun loc s' =>
      .next (loadUp sz (maskBits mask) loc.address s').2

/-- The address of MOVEP (R217). -/
def movepAddr (an : RegNo) (disp : Word) (s : State) : Long := s.areg an + disp.signExtend 32

/-- The bytes of a list stored at every other address (R217). -/
def storeAlternate : List Byte → Long → State → State
  | [], _, s => s
  | b :: rest, a, s => storeAlternate rest (a + 2#32) (s.memWrite .b a (b.setWidth 32))

/-- MOVEP register to memory (R217). -/
def movepStore (sz : Size) (dn an : RegNo) (disp : Word) (s : State) : Result :=
  .next (storeAlternate (bytesOf sz (s.dreg dn)) (movepAddr an disp s) (s.consume 1))

/-- The value MOVEP loads (R217): a byte from every other address. -/
def loadAlternate (sz : Size) (a : Long) (s : State) : Long :=
  match sz with
  | .b => s.memRead .b a
  | .w => (s.memRead .b a <<< 8) ||| s.memRead .b (a + 2#32)
  | .l =>
    (s.memRead .b a <<< 24) ||| (s.memRead .b (a + 2#32) <<< 16)
      ||| (s.memRead .b (a + 4#32) <<< 8) ||| s.memRead .b (a + 6#32)

/-- MOVEP memory to register (R217). -/
def movepLoad (sz : Size) (dn an : RegNo) (disp : Word) (s : State) : Result :=
  .next ((s.consume 1).mergeD sz dn (loadAlternate sz (movepAddr an disp s) s))

/-- LEA (R218): no memory access, the address unmasked. -/
def loadAddress (ea : EA) (an : RegNo) (s : State) : Result :=
  withOperand ea .l s fun loc s => .next (s.setA an loc.address)

/-- PEA (R219): the address is computed before the push. -/
def pushAddress (ea : EA) (s : State) : Result :=
  withOperand ea .l s fun loc s => .next (s.push32 loc.address)

/-- EXG (R220). -/
def exchange (xr yr : XRegNo) (s : State) : Result :=
  .next ((s.setX xr (s.xreg yr)).setX yr (s.xreg xr))

/-- SWAP (R221). -/
def swapHalves (dn : RegNo) (s : State) : Result :=
  .next ((s.setD dn ((s.dreg dn).rotateLeft 16)).setFlags
    (flagsLogic s.sr.ccr .l ((s.dreg dn).rotateLeft 16)))

/-- The size below. -/
def narrower : Size → Size
  | .b | .w => .b
  | .l => .w

/-- EXT (R225): the sign of the narrower size is extended to `sz`. -/
def extendSign (sz : Size) (dn : RegNo) (s : State) : Result :=
  .next ((s.mergeD sz dn (sext (narrower sz) (s.dreg dn))).setFlags
    (flagsLogic s.sr.ccr sz (sext (narrower sz) (s.dreg dn))))

/-- LINK after its displacement word (R222): push `An`, then the frame. -/
def linkPush (an : RegNo) (s : State) : State :=
  (s.setSp (s.sp - 4#32)).memWrite .l (s.sp - 4#32) ((s.setSp (s.sp - 4#32)).areg an)

/-- LINK (R222). -/
def linkFrame (an : RegNo) (disp : Word) (s : State) : Result :=
  .next (((linkPush an (s.consume 1)).setA an (s.sp - 4#32)).setSp
    (s.sp - 4#32 + disp.signExtend 32))

/-- UNLK (R223): for `A7` the loaded value wins. -/
def unlinkFrame (an : RegNo) (s : State) : Result :=
  .next ((s.setSp (s.areg an)).drop32.setA an (s.setSp (s.areg an)).top32)

/-- CLR (R224). -/
def clear (sz : Size) (ea : EA) (s : State) : Result :=
  withOperand ea sz s fun loc s =>
    .next ((s.writeOp loc sz 0#32).setFlags (flagsLogic s.sr.ccr sz 0#32))

/-- `MOVEP.W d16(Ay),Dx` (R217). -/
def execMovepLoadW (dn : RegNo) (an : RegNo) (disp : Word) (s : State) : Result :=
  movepLoad .w dn an disp s

/-- `MOVEP.L d16(Ay),Dx` (R217). -/
def execMovepLoadL (dn : RegNo) (an : RegNo) (disp : Word) (s : State) : Result :=
  movepLoad .l dn an disp s

/-- `MOVEP.W Dx,d16(Ay)` (R217). -/
def execMovepStoreW (dn : RegNo) (an : RegNo) (disp : Word) (s : State) : Result :=
  movepStore .w dn an disp s

/-- `MOVEP.L Dx,d16(Ay)` (R217). -/
def execMovepStoreL (dn : RegNo) (an : RegNo) (disp : Word) (s : State) : Result :=
  movepStore .l dn an disp s

/-- `MOVE.B src,dst` (R211). -/
def execMoveB (src : EA) (dst : EA) (s : State) : Result :=
  moveData .b src dst s

/-- `MOVE.L src,dst` (R211). -/
def execMoveL (src : EA) (dst : EA) (s : State) : Result :=
  moveData .l src dst s

/-- `MOVEA.L src,An` (R212). -/
def execMoveaL (src : EA) (an : RegNo) (s : State) : Result :=
  moveAddress .l src an s

/-- `MOVE.W src,dst` (R211). -/
def execMoveW (src : EA) (dst : EA) (s : State) : Result :=
  moveData .w src dst s

/-- `MOVEA.W src,An` (R212). -/
def execMoveaW (src : EA) (an : RegNo) (s : State) : Result :=
  moveAddress .w src an s

/-- `LEA ea,An` (R218). -/
def execLea (ea : EA) (an : RegNo) (s : State) : Result :=
  loadAddress ea an s

/-- `CLR.B ea` (R224). -/
def execClrB (ea : EA) (s : State) : Result :=
  clear .b ea s

/-- `CLR.W ea` (R224). -/
def execClrW (ea : EA) (s : State) : Result :=
  clear .w ea s

/-- `CLR.L ea` (R224). -/
def execClrL (ea : EA) (s : State) : Result :=
  clear .l ea s

/-- `SWAP Dn` (R221). -/
def execSwap (dn : RegNo) (s : State) : Result :=
  swapHalves dn s

/-- `PEA ea` (R219). -/
def execPea (ea : EA) (s : State) : Result :=
  pushAddress ea s

/-- `EXT.W Dn` (R225). -/
def execExtW (dn : RegNo) (s : State) : Result :=
  extendSign .w dn s

/-- `EXT.L Dn` (R225). -/
def execExtL (dn : RegNo) (s : State) : Result :=
  extendSign .l dn s

/-- `MOVEM.W list,ea` (R214). -/
def execMovemStoreW (mask : Word) (ea : EA) (s : State) : Result :=
  movemStore .w mask ea s

/-- `MOVEM.L list,ea` (R214). -/
def execMovemStoreL (mask : Word) (ea : EA) (s : State) : Result :=
  movemStore .l mask ea s

/-- `MOVEM.W ea,list` (R215). -/
def execMovemLoadW (mask : Word) (ea : EA) (s : State) : Result :=
  movemLoad .w mask ea s

/-- `MOVEM.L ea,list` (R215). -/
def execMovemLoadL (mask : Word) (ea : EA) (s : State) : Result :=
  movemLoad .l mask ea s

/-- `LINK An,#d16` (R222). -/
def execLink (an : RegNo) (disp : Word) (s : State) : Result :=
  linkFrame an disp s

/-- `UNLK An` (R223). -/
def execUnlk (an : RegNo) (s : State) : Result :=
  unlinkFrame an s

/-- `MOVEQ #d8,Dn` (R213). -/
def execMoveq (dn : RegNo) (data : Byte) (s : State) : Result :=
  moveQuick dn data s

/-- `EXG Dx,Dy` (R220). -/
def execExgDD (rx : RegNo) (ry : RegNo) (s : State) : Result :=
  exchange (xData rx) (xData ry) s

/-- `EXG Ax,Ay` (R220). -/
def execExgAA (rx : RegNo) (ry : RegNo) (s : State) : Result :=
  exchange (xAddr rx) (xAddr ry) s

/-- `EXG Dx,Ay` (R220). -/
def execExgDA (rx : RegNo) (ry : RegNo) (s : State) : Result :=
  exchange (xData rx) (xAddr ry) s

end Sys2Proof.Machine
end

