-- ==== Sys2Proof/Machine/Float.lean ====
section
/-! DEFINITION. The arithmetic of the float bridge (spec/48_float_bridge.md R381 to R395): IEEE 754
binary64 with round to nearest even, on bit patterns, computed exactly and then narrowed once; and the
conversions to and from the guest's float format. -/

namespace Sys2Proof.Machine

/-- A binary64 number taken apart: a number is `± m * 2^e`. -/
inductive Unpacked where
  | nan
  | inf (neg : Bool)
  | num (neg : Bool) (m : Nat) (e : Int)
deriving DecidableEq, Repr

/-- A quiet NaN; which NaN an operation gives is seen by no rule (R389 rejects every NaN). -/
def dNaN : Double := 0x7FF8000000000000#64

/-- An infinity. -/
def dInf (neg : Bool) : Double := BitVec.ofBool neg ++ 0x7FF0000000000000#63

/-- A zero. -/
def dZero (neg : Bool) : Double := BitVec.ofBool neg ++ 0#63

/-- The parts of a binary64 pattern. -/
def unpack (v : Double) : Unpacked :=
  if (v.extractLsb' 52 11).toNat = 2047 then
    if v.extractLsb' 0 52 = 0#52 then .inf (v.getLsbD 63) else .nan
  else if (v.extractLsb' 52 11).toNat = 0 then
    .num (v.getLsbD 63) (v.extractLsb' 0 52).toNat (-1074)
  else
    .num (v.getLsbD 63) ((v.extractLsb' 0 52).toNat + 2 ^ 52) ((v.extractLsb' 52 11).toNat - 1075)

/-- `n * 2^k` for an exponent that may be negative (then `n`). -/
def scaleUp (n : Nat) (k : Int) : Nat := n * 2 ^ k.toNat

/-- The exponent of the leading bit of the positive rational `n / d`. -/
def ratLog (n d : Nat) : Int :=
  if scaleUp n ((d.log2 : Int) - n.log2) < scaleUp d ((n.log2 : Int) - d.log2) then
    (n.log2 : Int) - d.log2 - 1
  else (n.log2 : Int) - d.log2

/-- `num / den` rounded to the nearest integer, ties to even. -/
def nearestEven (num den : Nat) : Nat :=
  if 2 * (num % den) < den then num / den
  else if 2 * (num % den) = den then num / den + (num / den) % 2
  else num / den + 1

/-- The weight of the last bit kept of a positive rational `n / d * 2^e`: 52 below its leading bit, but
never below the subnormal range. -/
def lastBit (n d : Nat) (e : Int) : Int := max (ratLog n d + e) (-1022) - 52

/-- The binary64 number of a significand and the weight of its last bit; an overflow is an infinity. -/
def assemble (neg : Bool) (q : Nat) (u : Int) : Double :=
  if 2047 * 2 ^ 52 ≤ (u + 1074).toNat * 2 ^ 52 + q then dInf neg
  else BitVec.ofBool neg ++ BitVec.ofNat 63 ((u + 1074).toNat * 2 ^ 52 + q)

/-- `± n / d * 2^e` rounded to binary64, to nearest even (R394). -/
def roundRat (neg : Bool) (n d : Nat) (e : Int) : Double :=
  if n = 0 then dZero neg
  else
    assemble neg
      (nearestEven (scaleUp n (e - lastBit n d e)) (scaleUp d (lastBit n d e - e)))
      (lastBit n d e)

/-- A signed significand. -/
def signedMant (neg : Bool) (m : Nat) : Int := if neg then -(m : Int) else m

/-- The exact sum of two numbers over the smaller exponent. -/
def exactSum (n₁ : Bool) (m₁ : Nat) (e₁ : Int) (n₂ : Bool) (m₂ : Nat) (e₂ : Int) : Int :=
  signedMant n₁ (scaleUp m₁ (e₁ - min e₁ e₂)) + signedMant n₂ (scaleUp m₂ (e₂ - min e₁ e₂))

/-- `x + y`. A zero sum is `+0` unless both operands are negative zeros. -/
def dAdd (x y : Double) : Double :=
  match unpack x, unpack y with
  | .nan, _ | _, .nan => dNaN
  | .inf a, .inf b => if a = b then dInf a else dNaN
  | .inf a, .num _ _ _ => dInf a
  | .num _ _ _, .inf b => dInf b
  | .num n₁ m₁ e₁, .num n₂ m₂ e₂ =>
    if exactSum n₁ m₁ e₁ n₂ m₂ e₂ = 0 then dZero (n₁ && n₂ && decide (m₁ = 0))
    else
      roundRat (decide (exactSum n₁ m₁ e₁ n₂ m₂ e₂ < 0)) (exactSum n₁ m₁ e₁ n₂ m₂ e₂).natAbs 1
        (min e₁ e₂)

/-- `-x`. -/
def dNeg (x : Double) : Double := x ^^^ (0x8000000000000000#64)

/-- `x - y`. -/
def dSub (x y : Double) : Double := dAdd x (dNeg y)

/-- `x * y`. -/
def dMul (x y : Double) : Double :=
  match unpack x, unpack y with
  | .nan, _ | _, .nan => dNaN
  | .inf a, .inf b => dInf (a != b)
  | .inf a, .num n m _ => if m = 0 then dNaN else dInf (a != n)
  | .num n m _, .inf b => if m = 0 then dNaN else dInf (n != b)
  | .num n₁ m₁ e₁, .num n₂ m₂ e₂ => roundRat (n₁ != n₂) (m₁ * m₂) 1 (e₁ + e₂)

/-- `x / y`. -/
def dDiv (x y : Double) : Double :=
  match unpack x, unpack y with
  | .nan, _ | _, .nan => dNaN
  | .inf _, .inf _ => dNaN
  | .inf a, .num n _ _ => dInf (a != n)
  | .num n _ _, .inf b => dZero (n != b)
  | .num n₁ m₁ e₁, .num n₂ m₂ e₂ =>
    if m₂ = 0 then (if m₁ = 0 then dNaN else dInf (n₁ != n₂))
    else roundRat (n₁ != n₂) m₁ m₂ (e₁ - e₂)

/-- The integer square root by its bits, from bit `k - 1` down. -/
def isqrtFrom (n : Nat) : Nat → Nat → Nat
  | 0, acc => acc
  | k + 1, acc => isqrtFrom n k (if (acc + 2 ^ k) * (acc + 2 ^ k) ≤ n then acc + 2 ^ k else acc)

/-- The largest integer whose square is at most `n`, for `n < 2^176`. -/
def isqrt (n : Nat) : Nat := isqrtFrom n 88 0

/-- The square root of `m * 2^(2*h)` for `m > 0`: 60 more bits than the operand has, and one more that says
whether the root is inexact, so that rounding once is rounding right. -/
def sqrtEven (m : Nat) (h : Int) : Double :=
  roundRat false
    (2 * isqrt (m * 2 ^ 120) + (if isqrt (m * 2 ^ 120) * isqrt (m * 2 ^ 120) = m * 2 ^ 120 then 0 else 1))
    1 (h - 61)

/-- The correctly rounded square root (R394); NaN for a negative number. -/
def dSqrt (x : Double) : Double :=
  match unpack x with
  | .nan => dNaN
  | .inf neg => if neg then dNaN else dInf false
  | .num neg m e =>
    if m = 0 then dZero neg
    else if neg then dNaN
    else if e % 2 = 0 then sqrtEven m (e / 2)
    else sqrtEven (2 * m) ((e - 1) / 2)

/-- The numbers 1, 2 and 360 (R387, R394). -/
def dOne : Double := 0x3FF0000000000000#64
def dTwo : Double := 0x4000000000000000#64
def d360 : Double := 0x4076800000000000#64

/-! The constraint of R395 on the mathematics library. -/

/-- The binary64 pattern `y` is a number, and that number is `r`. -/
def isReal (y : Double) (r : ℝ) : Prop :=
  ∃ (neg : Bool) (m : Nat) (e : Int), unpack y = .num neg m e ∧ r = (signedMant neg m : ℝ) * 2 ^ e

/-- `y` is a number within 1 ulp of `v` (R395): within `2^(k-52)` for every `k` from -1022 on with
`|v| < 2^(k+1)`, the least of which is the ulp of `v`. A `v` beyond the range of binary64 has no ulp. -/
def withinUlp (v : ℝ) (y : Double) : Prop :=
  |v| < 2 ^ (1024 : Int) →
    ∃ r, isReal y r ∧ ∀ k : Int, -1022 ≤ k → |v| < 2 ^ (k + 1) → |r - v| ≤ 2 ^ (k - 52)

/-- `|lib(x) - fn(x)| <= 1 ulp` for every number `x` at which `fn` has a value (R395). -/
def libAccurate (lib : Double → Double) (dom : ℝ → Prop) (fn : ℝ → ℝ) : Prop :=
  ∀ x r, isReal x r → dom r → withinUlp (fn r) (lib x)

/-- `FP_LIB(COT, x)`: 1 / `FP_LIB(TAN, x)` (R395). -/
def fpLibCot (x : Double) : Double := dDiv dOne (Config.fpLibTan x)

/-- The constraint of R395 on COS, SIN and TAN, which have a value at every binary64 number. A premise for the
claims that need the accuracy (log 10). -/
def fpLibAccurate : Prop :=
  libAccurate Config.fpLibCos (fun _ => True) Real.cos
  ∧ libAccurate Config.fpLibSin (fun _ => True) Real.sin
  ∧ libAccurate Config.fpLibTan (fun _ => True) Real.tan

/-- The constraint of R395 on COT, the quotient, which has no value at 0. It stands apart, because no rule
says that the rounded quotient of an accurate TAN meets it (log 10). -/
def fpLibCotAccurate : Prop := libAccurate fpLibCot (fun r => r ≠ 0) Real.cot

/-- The whole constraint of R395 on `FP_LIB`. -/
def fpLibConstraint : Prop := fpLibAccurate ∧ fpLibCotAccurate

/-- The function of a bridge operation on its operands (R394, R395). -/
def fpCompute (op : FpOp) (x y : Double) : Double :=
  match op.fn with
  | .add => dAdd x y
  | .sub =>
    match op.order with
    | .tosOpNos => dSub x y
    | .nosOpTos => dSub y x
  | .mul => dMul x y
  | .div =>
    match op.order with
    | .tosOpNos => dDiv x y
    | .nosOpTos => dDiv y x
  | .double => dMul x dTwo
  | .halve => dDiv x dTwo
  | .recip => dDiv dOne x
  | .square => dMul x x
  | .sqrt => dSqrt x
  | .cos => Config.fpLibCos x
  | .sin => Config.fpLibSin x
  | .cot => fpLibCot x
  | .tan => Config.fpLibTan x

/-- Whether a function takes two operands (R396). -/
def fpBinary : FpFn → Bool
  | .add | .sub | .mul | .div => true
  | .double | .halve | .recip | .square | .sqrt | .cos | .sin | .cot | .tan => false

/-- `toDouble(e, m)` (R386); `none` is the reject value. -/
def toDouble (c : Config) (e : Word) (m : Long) : Option Double :=
  if e = 0x007B#16 ∧ m = 0x86A80000#32 then some d360
  else if m = 0#32 then some (dZero false)
  else if e.toNat < c.fpExpLo ∨ c.fpExpHi < e.toNat then none
  else some (roundRat (decide (m.toInt < 0)) m.toInt.natAbs 1 ((e.toNat : Int) - 0x81F))

/-- `toGuest(v)` (R389); `none` is not representable. -/
def toGuest (v : Double) : Option (Word × Long) :=
  if v.extractLsb' 52 11 = 0x7FF#11 then none
  else if v.extractLsb' 0 63 = 0#63 then some (0#16, 0#32)
  else if v.extractLsb' 52 11 = 0#11 then none
  else if !v.getLsbD 63 then
    some ((v.extractLsb' 52 11).setWidth 16 + 0x402#16, 1#2 ++ v.extractLsb' 22 30)
  else if v.extractLsb' 22 30 = 0#30 then
    some ((v.extractLsb' 52 11).setWidth 16 + 0x401#16, 0x80000000#32)
  else
    some ((v.extractLsb' 52 11).setWidth 16 + 0x402#16, 0#32 - (1#2 ++ v.extractLsb' 22 30))

end Sys2Proof.Machine
end

