-- ==== Sys2Proof/Machine/HostBand.lean ====
section
/-! DEFINITION. The host-communication band (spec/47_system.md R360 to R364) and the float bridge
(spec/48_float_bridge.md R396 to R402). When a meaning runs, `pc` is past the opcode word (R27). -/

namespace Sys2Proof.Machine

/-- `readFloat(a)` and `toDouble` of it (R382, R386). -/
def State.readDouble (s : State) (a : Long) : Option Double :=
  toDouble s.config ((s.memRead .w a).setWidth 16) (s.memRead .l (a + 2#32))

/-- `writeFloat(a, e, m)` (R382). -/
def State.writeFloat (a : Long) (g : Word × Long) (s : State) : State :=
  (s.memWrite .w a (g.1.setWidth 32)).memWrite .l (a + 2#32) g.2

/-- The float pointer `P` (R384). -/
def State.floatPtr (s : State) : Long := s.areg s.config.fpPtrReg

/-- The operands of a bridge operation (R396, R399); a unary function has no second operand. -/
def bridgeOperands (op : FpOp) (s : State) : Option (Double × Double) :=
  match s.readDouble s.floatPtr with
  | none => none
  | some x =>
    if fpBinary op.fn then
      match s.readDouble (s.floatPtr + 6#32) with
      | none => none
      | some y => some (x, y)
    else some (x, x)

/-- The result of a bridge operation as a guest float (R399, R400); `none` is the failure path. -/
def bridgeResult (op : FpOp) (s : State) : Option (Word × Long) :=
  match bridgeOperands op s with
  | none => none
  | some p => toGuest (fpCompute op p.1 p.2)

/-- Where the result goes and where the pointer stands afterwards (R396). -/
def bridgeDest (op : FpOp) (s : State) : Long :=
  if fpBinary op.fn && decide (op.variant = .stack) then s.floatPtr + 6#32 else s.floatPtr

/-- The registers of a descriptor's clobber set take free values (R401). -/
def clobber : List XRegNo → State → State
  | [], s => s
  | r :: rest, s => clobber rest ((s.setX r (s.freeLong 0)).advanceDraws 1)

/-- The success path (R398, R401): the result is written, the pointer moves, the routine has returned. -/
def bridgeSuccess (op : FpOp) (g : Word × Long) (s : State) : State :=
  (clobber op.clobbers
    ((s.drop32.writeFloat (bridgeDest op s) g).setA s.config.fpPtrReg (bridgeDest op s))).setPc
    s.top32

/-- The failure path (R402): every register as it was, execution goes on at the slow entry. -/
def bridgeFailure (op : FpOp) (s : State) : State := s.setPc op.slowEntry

/-- One bridge operation (R397 to R402). -/
def bridge (op : FpOp) (s : State) : State :=
  match bridgeResult op s with
  | none => bridgeFailure op s
  | some g => bridgeSuccess op g s

/-- `idx(w)` (R361). -/
def bandIndex (band : HostBand) (w : Word) : Int := -(((w.toNat : Int) - band.base) + 1)

/-- One action of the collaborator (R363). -/
def hostAct (act : HostAction) (s : State) : State :=
  match act with
  | .setD r v => s.setD r v
  | .setA r v => s.setA r v
  | .setSR v => s.setSR v
  | .setPc t => s.setPc t
  | .memWrite sz a v => s.memWrite sz a v
  | .bulkWrite dest bytes => s.bulkWrite dest bytes
  | .signalInterrupt => { s with irqPending := true }

/-- The actions of one call of the collaborator, in order. -/
def hostActs : List HostAction → State → State
  | [], s => s
  | act :: rest, s => hostActs rest (hostAct act s)

/-- A call of the trap-dispatch collaborator (R363): the next answer of the oracle is performed. -/
def hostService (w : Word) (s : State) : State :=
  hostActs (s.hostTraps.headD [])
    { s with
      hostTraps := s.hostTraps.tail
      events := s.events ++ [.hostTrap (bandIndex s.config.band w)] }

/-- The bridge descriptor of an opcode word (R364, R393). -/
def bridgeOpOf (c : Config) (w : Word) : Option FpOp := c.fpOps.find? (fun op => decide (op.opcode = w))

/-- The handler of the band (R360): the sentinel (R362), a bridge operation (R364), or the
collaborator. -/
def hostTrapWord (w : Word) (s : State) : Result :=
  if w = s.config.band.stop then .next { s with outcome := .stop }
  else
    match bridgeOpOf s.config w with
    | some op => .next (bridge op s)
    | none => .next (hostService w s)

/-- `DC.W w`, a word of the host band (R360). -/
def execHosttrap (w : Word) (s : State) : Result :=
  hostTrapWord w s

end Sys2Proof.Machine
end

