-- ==== Sys2Proof/Machine/Logic.lean ====
section
/-! DEFINITION. Logic (spec/45_logic_shift_bit.md R281 to R290): the operations, and the meaning of each
instruction. When a meaning runs, `pc` is past the opcode word (R27). -/

namespace Sys2Proof.Machine

/-- The immediate forms on the condition codes (R283, R286, R289). -/
def ccrImmediate (f : Byte → Byte) (s : State) : Result :=
  .next ((s.consume 1).setFlags (Flags.ofByte (f s.sr.ccr.toByte)))

/-- NOT (R290). -/
def complement (sz : Size) (ea : EA) (s : State) : Result :=
  withOperand ea sz s fun loc s =>
    .next ((s.writeOp loc sz (trunc sz (~~~ (s.readOp loc sz)))).setFlags
      (flagsLogic s.sr.ccr sz (trunc sz (~~~ (s.readOp loc sz)))))

/-- `ORI #imm8,CCR` (R286). -/
def execOriToCcr (imm : Byte) (s : State) : Result :=
  ccrImmediate (fun ccr => ccr ||| imm) s

/-- `ORI.B #imm,ea` (R285). -/
def execOriB (imm : Byte) (ea : EA) (s : State) : Result :=
  aluImm .or .b (imm.setWidth 32) ea s

/-- `ORI.W #imm,ea` (R285). -/
def execOriW (imm : Word) (ea : EA) (s : State) : Result :=
  aluImm .or .w (imm.setWidth 32) ea s

/-- `ORI.L #imm,ea` (R285). -/
def execOriL (imm : Long) (ea : EA) (s : State) : Result :=
  aluImm .or .l imm ea s

/-- `ANDI #imm8,CCR` (R283). -/
def execAndiToCcr (imm : Byte) (s : State) : Result :=
  ccrImmediate (fun ccr => ccr &&& imm) s

/-- `ANDI.B #imm,ea` (R282). -/
def execAndiB (imm : Byte) (ea : EA) (s : State) : Result :=
  aluImm .and .b (imm.setWidth 32) ea s

/-- `ANDI.W #imm,ea` (R282). -/
def execAndiW (imm : Word) (ea : EA) (s : State) : Result :=
  aluImm .and .w (imm.setWidth 32) ea s

/-- `ANDI.L #imm,ea` (R282). -/
def execAndiL (imm : Long) (ea : EA) (s : State) : Result :=
  aluImm .and .l imm ea s

/-- `EORI #imm8,CCR` (R289). -/
def execEoriToCcr (imm : Byte) (s : State) : Result :=
  ccrImmediate (fun ccr => ccr ^^^ imm) s

/-- `EORI.B #imm,ea` (R288). -/
def execEoriB (imm : Byte) (ea : EA) (s : State) : Result :=
  aluImm .eor .b (imm.setWidth 32) ea s

/-- `EORI.W #imm,ea` (R288). -/
def execEoriW (imm : Word) (ea : EA) (s : State) : Result :=
  aluImm .eor .w (imm.setWidth 32) ea s

/-- `EORI.L #imm,ea` (R288). -/
def execEoriL (imm : Long) (ea : EA) (s : State) : Result :=
  aluImm .eor .l imm ea s

/-- `NOT.B ea` (R290). -/
def execNotB (ea : EA) (s : State) : Result :=
  complement .b ea s

/-- `NOT.W ea` (R290). -/
def execNotW (ea : EA) (s : State) : Result :=
  complement .w ea s

/-- `NOT.L ea` (R290). -/
def execNotL (ea : EA) (s : State) : Result :=
  complement .l ea s

/-- `OR.B ea,Dn` (R284). -/
def execOrEaDnB (ea : EA) (dn : RegNo) (s : State) : Result :=
  aluToReg .or .b ea dn s

/-- `OR.W ea,Dn` (R284). -/
def execOrEaDnW (ea : EA) (dn : RegNo) (s : State) : Result :=
  aluToReg .or .w ea dn s

/-- `OR.L ea,Dn` (R284). -/
def execOrEaDnL (ea : EA) (dn : RegNo) (s : State) : Result :=
  aluToReg .or .l ea dn s

/-- `OR.B Dn,ea` (R284). -/
def execOrDnEaB (dn : RegNo) (ea : EA) (s : State) : Result :=
  aluToEa .or .b dn ea s

/-- `OR.W Dn,ea` (R284). -/
def execOrDnEaW (dn : RegNo) (ea : EA) (s : State) : Result :=
  aluToEa .or .w dn ea s

/-- `OR.L Dn,ea` (R284). -/
def execOrDnEaL (dn : RegNo) (ea : EA) (s : State) : Result :=
  aluToEa .or .l dn ea s

/-- `EOR.B Dn,ea` (R287). -/
def execEorB (dn : RegNo) (ea : EA) (s : State) : Result :=
  aluToEa .eor .b dn ea s

/-- `EOR.W Dn,ea` (R287). -/
def execEorW (dn : RegNo) (ea : EA) (s : State) : Result :=
  aluToEa .eor .w dn ea s

/-- `EOR.L Dn,ea` (R287). -/
def execEorL (dn : RegNo) (ea : EA) (s : State) : Result :=
  aluToEa .eor .l dn ea s

/-- `AND.B ea,Dn` (R281). -/
def execAndEaDnB (ea : EA) (dn : RegNo) (s : State) : Result :=
  aluToReg .and .b ea dn s

/-- `AND.W ea,Dn` (R281). -/
def execAndEaDnW (ea : EA) (dn : RegNo) (s : State) : Result :=
  aluToReg .and .w ea dn s

/-- `AND.L ea,Dn` (R281). -/
def execAndEaDnL (ea : EA) (dn : RegNo) (s : State) : Result :=
  aluToReg .and .l ea dn s

/-- `AND.B Dn,ea` (R281). -/
def execAndDnEaB (dn : RegNo) (ea : EA) (s : State) : Result :=
  aluToEa .and .b dn ea s

/-- `AND.W Dn,ea` (R281). -/
def execAndDnEaW (dn : RegNo) (ea : EA) (s : State) : Result :=
  aluToEa .and .w dn ea s

/-- `AND.L Dn,ea` (R281). -/
def execAndDnEaL (dn : RegNo) (ea : EA) (s : State) : Result :=
  aluToEa .and .l dn ea s

end Sys2Proof.Machine
end

