-- ==== Sys2Proof/Machine/Shifts.lean ====
section
/-! DEFINITION. Shifts and rotates (spec/45_logic_shift_bit.md R291 to R300): the one-bit step of each,
its repetition, and the meaning of each instruction. When a meaning runs, `pc` is past the opcode word
(R27). -/

namespace Sys2Proof.Machine

/-- The eight shifts and rotates. -/
inductive ShiftOp where
  | asl | asr | lsl | lsr | rol | ror | roxl | roxr
deriving DecidableEq, Repr

/-- A bit at the bottom of a value. -/
def lowBit (b : Bool) : Long := if b then 1#32 else 0#32

/-- A bit at the top of a value of a size. -/
def highBit (sz : Size) (b : Bool) : Long := if b then 1#32 <<< (sizeBits sz - 1) else 0#32

/-- What a shift carries from one step to the next: the operand, `X`, `C` and `V`. -/
structure ShiftState where
  d : Long
  x : Bool
  c : Bool
  v : Bool
deriving DecidableEq, Repr

/-- The bit a step shifts out: the top bit to the left, the bottom bit to the right (R292 to R299). -/
def shiftOut (op : ShiftOp) (sz : Size) (d : Long) : Bool :=
  match op with
  | .asl | .lsl | .rol | .roxl => msbOf sz d
  | .asr | .lsr | .ror | .roxr => d.getLsbD 0

/-- The operand after a step (R292 to R299). -/
def shiftOnce (op : ShiftOp) (sz : Size) (d : Long) (x : Bool) : Long :=
  match op with
  | .asl | .lsl => trunc sz (d <<< 1)
  | .asr => (d >>> 1) ||| highBit sz (msbOf sz d)
  | .lsr => d >>> 1
  | .rol => trunc sz (d <<< 1) ||| lowBit (msbOf sz d)
  | .ror => (d >>> 1) ||| highBit sz (d.getLsbD 0)
  | .roxl => trunc sz (d <<< 1) ||| lowBit x
  | .roxr => (d >>> 1) ||| highBit sz x

/-- One step with its flags (R291): `X` follows `C` but for ROL and ROR, `V` records a change of the top
bit for ASL. -/
def shiftStep (op : ShiftOp) (sz : Size) (t : ShiftState) : ShiftState where
  d := shiftOnce op sz t.d t.x
  x := if op = .rol ∨ op = .ror then t.x else shiftOut op sz t.d
  c := shiftOut op sz t.d
  v := t.v || (decide (op = .asl) && (msbOf sz t.d != msbOf sz (shiftOnce op sz t.d t.x)))

/-- The step applied `n` times (R291). -/
def shiftTimes (op : ShiftOp) (sz : Size) : Nat → ShiftState → ShiftState
  | 0, t => t
  | n + 1, t => shiftTimes op sz n (shiftStep op sz t)

/-- The state of a shift before its first step (R291): `C` is `X` for ROXL and ROXR, else 0. -/
def shiftStart (op : ShiftOp) (d : Long) (x : Bool) : ShiftState where
  d := d
  x := x
  c := if op = .roxl ∨ op = .roxr then x else false
  v := false

/-- `shift(op, sz, d, c)` (R291). -/
def shiftResult (op : ShiftOp) (sz : Size) (d : Long) (count : Nat) (x : Bool) : ShiftState :=
  shiftTimes op sz count (shiftStart op d x)

/-- The flags of a finished shift (R291). -/
def shiftFlags (sz : Size) (t : ShiftState) : Flags where
  x := t.x
  n := msbOf sz t.d
  z := decide (t.d = 0#32)
  v := t.v
  c := t.c

/-- Shift a located operand and write it and the flags. -/
def shiftApply (op : ShiftOp) (sz : Size) (count : Nat) (loc : Loc) (s : State) : State :=
  (s.writeOp loc sz (shiftResult op sz (s.readOp loc sz) count s.sr.ccr.x).d).setFlags
    (shiftFlags sz (shiftResult op sz (s.readOp loc sz) count s.sr.ccr.x))

/-- The count of a register form (R291): 1 to 8, or a data register modulo 64. -/
def shiftCount (c : ShiftCount) (s : State) : Nat :=
  match c with
  | .imm n => if n = 0#3 then 8 else n.toNat
  | .reg r => (s.dreg r).toNat % 64

/-- `op.sz #c,Dn` and `op.sz Dm,Dn` (R291). -/
def shiftReg (op : ShiftOp) (sz : Size) (count : ShiftCount) (dn : RegNo) (s : State) : Result :=
  .next (shiftApply op sz (shiftCount count s) (.dreg dn) s)

/-- `op.W ea` (R300): one step on a word of memory. -/
def shiftMem (op : ShiftOp) (ea : EA) (s : State) : Result :=
  withOperand ea .w s fun loc s => .next (shiftApply op .w 1 loc s)

/-- `ASR.B #c,Dn` and `ASR.B Dm,Dn` (R293). -/
def execAsrRegB (count : ShiftCount) (dn : RegNo) (s : State) : Result :=
  shiftReg .asr .b count dn s

/-- `ASR.W #c,Dn` and `ASR.W Dm,Dn` (R293). -/
def execAsrRegW (count : ShiftCount) (dn : RegNo) (s : State) : Result :=
  shiftReg .asr .w count dn s

/-- `ASR.L #c,Dn` and `ASR.L Dm,Dn` (R293). -/
def execAsrRegL (count : ShiftCount) (dn : RegNo) (s : State) : Result :=
  shiftReg .asr .l count dn s

/-- `ASL.B #c,Dn` and `ASL.B Dm,Dn` (R292). -/
def execAslRegB (count : ShiftCount) (dn : RegNo) (s : State) : Result :=
  shiftReg .asl .b count dn s

/-- `ASL.W #c,Dn` and `ASL.W Dm,Dn` (R292). -/
def execAslRegW (count : ShiftCount) (dn : RegNo) (s : State) : Result :=
  shiftReg .asl .w count dn s

/-- `ASL.L #c,Dn` and `ASL.L Dm,Dn` (R292). -/
def execAslRegL (count : ShiftCount) (dn : RegNo) (s : State) : Result :=
  shiftReg .asl .l count dn s

/-- `LSR.B #c,Dn` and `LSR.B Dm,Dn` (R295). -/
def execLsrRegB (count : ShiftCount) (dn : RegNo) (s : State) : Result :=
  shiftReg .lsr .b count dn s

/-- `LSR.W #c,Dn` and `LSR.W Dm,Dn` (R295). -/
def execLsrRegW (count : ShiftCount) (dn : RegNo) (s : State) : Result :=
  shiftReg .lsr .w count dn s

/-- `LSR.L #c,Dn` and `LSR.L Dm,Dn` (R295). -/
def execLsrRegL (count : ShiftCount) (dn : RegNo) (s : State) : Result :=
  shiftReg .lsr .l count dn s

/-- `LSL.B #c,Dn` and `LSL.B Dm,Dn` (R294). -/
def execLslRegB (count : ShiftCount) (dn : RegNo) (s : State) : Result :=
  shiftReg .lsl .b count dn s

/-- `LSL.W #c,Dn` and `LSL.W Dm,Dn` (R294). -/
def execLslRegW (count : ShiftCount) (dn : RegNo) (s : State) : Result :=
  shiftReg .lsl .w count dn s

/-- `LSL.L #c,Dn` and `LSL.L Dm,Dn` (R294). -/
def execLslRegL (count : ShiftCount) (dn : RegNo) (s : State) : Result :=
  shiftReg .lsl .l count dn s

/-- `ROXR.B #c,Dn` and `ROXR.B Dm,Dn` (R299). -/
def execRoxrRegB (count : ShiftCount) (dn : RegNo) (s : State) : Result :=
  shiftReg .roxr .b count dn s

/-- `ROXR.W #c,Dn` and `ROXR.W Dm,Dn` (R299). -/
def execRoxrRegW (count : ShiftCount) (dn : RegNo) (s : State) : Result :=
  shiftReg .roxr .w count dn s

/-- `ROXR.L #c,Dn` and `ROXR.L Dm,Dn` (R299). -/
def execRoxrRegL (count : ShiftCount) (dn : RegNo) (s : State) : Result :=
  shiftReg .roxr .l count dn s

/-- `ROXL.B #c,Dn` and `ROXL.B Dm,Dn` (R298). -/
def execRoxlRegB (count : ShiftCount) (dn : RegNo) (s : State) : Result :=
  shiftReg .roxl .b count dn s

/-- `ROXL.W #c,Dn` and `ROXL.W Dm,Dn` (R298). -/
def execRoxlRegW (count : ShiftCount) (dn : RegNo) (s : State) : Result :=
  shiftReg .roxl .w count dn s

/-- `ROXL.L #c,Dn` and `ROXL.L Dm,Dn` (R298). -/
def execRoxlRegL (count : ShiftCount) (dn : RegNo) (s : State) : Result :=
  shiftReg .roxl .l count dn s

/-- `ROR.B #c,Dn` and `ROR.B Dm,Dn` (R297). -/
def execRorRegB (count : ShiftCount) (dn : RegNo) (s : State) : Result :=
  shiftReg .ror .b count dn s

/-- `ROR.W #c,Dn` and `ROR.W Dm,Dn` (R297). -/
def execRorRegW (count : ShiftCount) (dn : RegNo) (s : State) : Result :=
  shiftReg .ror .w count dn s

/-- `ROR.L #c,Dn` and `ROR.L Dm,Dn` (R297). -/
def execRorRegL (count : ShiftCount) (dn : RegNo) (s : State) : Result :=
  shiftReg .ror .l count dn s

/-- `ROL.B #c,Dn` and `ROL.B Dm,Dn` (R296). -/
def execRolRegB (count : ShiftCount) (dn : RegNo) (s : State) : Result :=
  shiftReg .rol .b count dn s

/-- `ROL.W #c,Dn` and `ROL.W Dm,Dn` (R296). -/
def execRolRegW (count : ShiftCount) (dn : RegNo) (s : State) : Result :=
  shiftReg .rol .w count dn s

/-- `ROL.L #c,Dn` and `ROL.L Dm,Dn` (R296). -/
def execRolRegL (count : ShiftCount) (dn : RegNo) (s : State) : Result :=
  shiftReg .rol .l count dn s

/-- `ASR.W ea` (R293). -/
def execAsrMem (ea : EA) (s : State) : Result :=
  shiftMem .asr ea s

/-- `ASL.W ea` (R292). -/
def execAslMem (ea : EA) (s : State) : Result :=
  shiftMem .asl ea s

/-- `LSR.W ea` (R295). -/
def execLsrMem (ea : EA) (s : State) : Result :=
  shiftMem .lsr ea s

/-- `LSL.W ea` (R294). -/
def execLslMem (ea : EA) (s : State) : Result :=
  shiftMem .lsl ea s

/-- `ROXR.W ea` (R299). -/
def execRoxrMem (ea : EA) (s : State) : Result :=
  shiftMem .roxr ea s

/-- `ROXL.W ea` (R298). -/
def execRoxlMem (ea : EA) (s : State) : Result :=
  shiftMem .roxl ea s

/-- `ROR.W ea` (R297). -/
def execRorMem (ea : EA) (s : State) : Result :=
  shiftMem .ror ea s

/-- `ROL.W ea` (R296). -/
def execRolMem (ea : EA) (s : State) : Result :=
  shiftMem .rol ea s

end Sys2Proof.Machine
end

