-- ==== Sys2Proof/Machine/System.lean ====
section
/-! DEFINITION. System instructions (spec/47_system.md R340 to R356): the operations, and the meaning of
each instruction. When a meaning runs, `pc` is past the opcode word (R27). -/

namespace Sys2Proof.Machine

/-- TRAPV (R342). -/
def trapOnOverflow (s : State) : Result :=
  if s.sr.ccr.v then enterException vecTrapV s else .next s

/-- CHK (R343): `Z`, `V`, `C` are free values, and `N` is one where no trap is taken. -/
def checkBounds (ea : EA) (dn : RegNo) (s : State) : Result :=
  withSource ea .w s fun v s =>
    if signedOf .w (s.dreg dn) < 0 then
      enterException vecCheck
        ((s.setFlags ⟨s.sr.ccr.x, true, s.freeBit 0, s.freeBit 1, s.freeBit 2⟩).advanceDraws 3)
    else if signedOf .w v < signedOf .w (s.dreg dn) then
      enterException vecCheck
        ((s.setFlags ⟨s.sr.ccr.x, false, s.freeBit 0, s.freeBit 1, s.freeBit 2⟩).advanceDraws 3)
    else
      .next ((s.setFlags
        ⟨s.sr.ccr.x, s.freeBit 3, s.freeBit 0, s.freeBit 1, s.freeBit 2⟩).advanceDraws 4)

/-- RTE after its privilege check (R347). -/
def returnFromException (s : State) : Result := .next s.returnException

/-- STOP after its privilege check (R348). -/
def stopWith (imm : Word) (s : State) : Result :=
  .next { (s.consume 1).setSR imm with stopped := true }

/-- MOVE from SR (R350). -/
def storeSr (ea : EA) (s : State) : Result :=
  withOperand ea .w s fun loc s => .next (s.writeOp loc .w (s.sr.toWord.setWidth 32))

/-- MOVE to SR after its privilege check (R351). -/
def loadSr (ea : EA) (s : State) : Result :=
  withSource ea .w s fun v s => .next (s.setSR (v.setWidth 16))

/-- MOVE to CCR (R352): a word is read, its low byte used. -/
def loadCcr (ea : EA) (s : State) : Result :=
  withSource ea .w s fun v s => .next (s.setFlags (Flags.ofByte (v.setWidth 8)))

/-- The immediate forms on the status register after their privilege check (R353 to R355). -/
def srImmediate (f : Word → Word) (s : State) : Result :=
  .next ((s.consume 1).setSR (f s.sr.toWord))

/-- MOVE An,USP after its privilege check (R356). -/
def writeUsp (an : RegNo) (s : State) : Result := .next { s with usp := s.areg an }

/-- MOVE USP,An after its privilege check (R356). -/
def readUsp (an : RegNo) (s : State) : Result := .next (s.setA an s.usp)

/-- `ORI #imm16,SR` (R354). -/
def execOriToSr (imm : Word) (s : State) : Result :=
  privileged (fun s => srImmediate (fun sr => sr ||| imm) s) s

/-- `ANDI #imm16,SR` (R353). -/
def execAndiToSr (imm : Word) (s : State) : Result :=
  privileged (fun s => srImmediate (fun sr => sr &&& imm) s) s

/-- `EORI #imm16,SR` (R355). -/
def execEoriToSr (imm : Word) (s : State) : Result :=
  privileged (fun s => srImmediate (fun sr => sr ^^^ imm) s) s

/-- `MOVE SR,ea` (R350). -/
def execMoveFromSr (ea : EA) (s : State) : Result :=
  storeSr ea s

/-- `CHK.W ea,Dn` (R343). -/
def execChk (ea : EA) (dn : RegNo) (s : State) : Result :=
  checkBounds ea dn s

/-- `MOVE ea,CCR` (R352). -/
def execMoveToCcr (ea : EA) (s : State) : Result :=
  loadCcr ea s

/-- `MOVE ea,SR` (R351). -/
def execMoveToSr (ea : EA) (s : State) : Result :=
  privileged (fun s => loadSr ea s) s

/-- `ILLEGAL` (R344). -/
def execIllegal (s : State) : Result :=
  enterException vecIllegal s

/-- `TRAP #v` (R341). -/
def execTrap (v : BitVec 4) (s : State) : Result :=
  enterException (vecTrapBase + v.toNat) s

/-- `MOVE An,USP` (R356). -/
def execMoveToUsp (an : RegNo) (s : State) : Result :=
  privileged (fun s => writeUsp an s) s

/-- `MOVE USP,An` (R356). -/
def execMoveFromUsp (an : RegNo) (s : State) : Result :=
  privileged (fun s => readUsp an s) s

/-- `RESET` (R349). -/
def execReset (s : State) : Result :=
  privileged (fun s => .next s) s

/-- `STOP #imm16` (R348). -/
def execStop (imm : Word) (s : State) : Result :=
  privileged (fun s => stopWith imm s) s

/-- `RTE` (R347). -/
def execRte (s : State) : Result :=
  privileged returnFromException s

/-- `TRAPV` (R342). -/
def execTrapv (s : State) : Result :=
  trapOnOverflow s

/-- a word `1010 …` outside the host band (R345). -/
def execLinea (_low : BitVec 12) (s : State) : Result :=
  enterException vecLineA s

/-- a word `1111 …` outside the host band (R346). -/
def execLinef (_low : BitVec 12) (s : State) : Result :=
  enterException vecLineF s

/-- a word that no other row of the table claims (R344). -/
def execIllegalFiller (_w : Word) (s : State) : Result :=
  enterException vecIllegal s

end Sys2Proof.Machine
end

