-- ==== Sys2Proof/Machine/Dispatch.lean ====
section
/-! DEFINITION. The dispatch: one arm per constructor of `Instr`, each one direct call of a meaning. -/

namespace Sys2Proof.Machine

/-- The meaning of an instruction, with `pc` past its opcode word (spec/40_execution_loop.md R147). -/
def exec (i : Instr) (s : State) : Host.Outcome State Fault Refusal :=
  match i with
  | .hosttrap w => Sys2Proof.Machine.execHosttrap w s
  | .oriToCcr imm => Sys2Proof.Machine.execOriToCcr imm s
  | .oriToSr imm => Sys2Proof.Machine.execOriToSr imm s
  | .oriB imm ea => Sys2Proof.Machine.execOriB imm ea s
  | .oriW imm ea => Sys2Proof.Machine.execOriW imm ea s
  | .oriL imm ea => Sys2Proof.Machine.execOriL imm ea s
  | .andiToCcr imm => Sys2Proof.Machine.execAndiToCcr imm s
  | .andiToSr imm => Sys2Proof.Machine.execAndiToSr imm s
  | .andiB imm ea => Sys2Proof.Machine.execAndiB imm ea s
  | .andiW imm ea => Sys2Proof.Machine.execAndiW imm ea s
  | .andiL imm ea => Sys2Proof.Machine.execAndiL imm ea s
  | .subiB imm ea => Sys2Proof.Machine.execSubiB imm ea s
  | .subiW imm ea => Sys2Proof.Machine.execSubiW imm ea s
  | .subiL imm ea => Sys2Proof.Machine.execSubiL imm ea s
  | .addiB imm ea => Sys2Proof.Machine.execAddiB imm ea s
  | .addiW imm ea => Sys2Proof.Machine.execAddiW imm ea s
  | .addiL imm ea => Sys2Proof.Machine.execAddiL imm ea s
  | .btstImm bit ea => Sys2Proof.Machine.execBtstImm bit ea s
  | .bchgImm bit ea => Sys2Proof.Machine.execBchgImm bit ea s
  | .bclrImm bit ea => Sys2Proof.Machine.execBclrImm bit ea s
  | .bsetImm bit ea => Sys2Proof.Machine.execBsetImm bit ea s
  | .eoriToCcr imm => Sys2Proof.Machine.execEoriToCcr imm s
  | .eoriToSr imm => Sys2Proof.Machine.execEoriToSr imm s
  | .eoriB imm ea => Sys2Proof.Machine.execEoriB imm ea s
  | .eoriW imm ea => Sys2Proof.Machine.execEoriW imm ea s
  | .eoriL imm ea => Sys2Proof.Machine.execEoriL imm ea s
  | .cmpiB imm ea => Sys2Proof.Machine.execCmpiB imm ea s
  | .cmpiW imm ea => Sys2Proof.Machine.execCmpiW imm ea s
  | .cmpiL imm ea => Sys2Proof.Machine.execCmpiL imm ea s
  | .btstReg dn ea => Sys2Proof.Machine.execBtstReg dn ea s
  | .bchgReg dn ea => Sys2Proof.Machine.execBchgReg dn ea s
  | .bclrReg dn ea => Sys2Proof.Machine.execBclrReg dn ea s
  | .bsetReg dn ea => Sys2Proof.Machine.execBsetReg dn ea s
  | .movepLoadW dn an disp => Sys2Proof.Machine.execMovepLoadW dn an disp s
  | .movepLoadL dn an disp => Sys2Proof.Machine.execMovepLoadL dn an disp s
  | .movepStoreW dn an disp => Sys2Proof.Machine.execMovepStoreW dn an disp s
  | .movepStoreL dn an disp => Sys2Proof.Machine.execMovepStoreL dn an disp s
  | .moveB src dst => Sys2Proof.Machine.execMoveB src dst s
  | .moveL src dst => Sys2Proof.Machine.execMoveL src dst s
  | .moveaL src an => Sys2Proof.Machine.execMoveaL src an s
  | .moveW src dst => Sys2Proof.Machine.execMoveW src dst s
  | .moveaW src an => Sys2Proof.Machine.execMoveaW src an s
  | .negxB ea => Sys2Proof.Machine.execNegxB ea s
  | .negxW ea => Sys2Proof.Machine.execNegxW ea s
  | .negxL ea => Sys2Proof.Machine.execNegxL ea s
  | .moveFromSr ea => Sys2Proof.Machine.execMoveFromSr ea s
  | .chk ea dn => Sys2Proof.Machine.execChk ea dn s
  | .lea ea an => Sys2Proof.Machine.execLea ea an s
  | .clrB ea => Sys2Proof.Machine.execClrB ea s
  | .clrW ea => Sys2Proof.Machine.execClrW ea s
  | .clrL ea => Sys2Proof.Machine.execClrL ea s
  | .negB ea => Sys2Proof.Machine.execNegB ea s
  | .negW ea => Sys2Proof.Machine.execNegW ea s
  | .negL ea => Sys2Proof.Machine.execNegL ea s
  | .moveToCcr ea => Sys2Proof.Machine.execMoveToCcr ea s
  | .notB ea => Sys2Proof.Machine.execNotB ea s
  | .notW ea => Sys2Proof.Machine.execNotW ea s
  | .notL ea => Sys2Proof.Machine.execNotL ea s
  | .moveToSr ea => Sys2Proof.Machine.execMoveToSr ea s
  | .nbcd ea => Sys2Proof.Machine.execNbcd ea s
  | .swap dn => Sys2Proof.Machine.execSwap dn s
  | .pea ea => Sys2Proof.Machine.execPea ea s
  | .extW dn => Sys2Proof.Machine.execExtW dn s
  | .extL dn => Sys2Proof.Machine.execExtL dn s
  | .movemStoreW mask ea => Sys2Proof.Machine.execMovemStoreW mask ea s
  | .movemStoreL mask ea => Sys2Proof.Machine.execMovemStoreL mask ea s
  | .movemLoadW mask ea => Sys2Proof.Machine.execMovemLoadW mask ea s
  | .movemLoadL mask ea => Sys2Proof.Machine.execMovemLoadL mask ea s
  | .tstB ea => Sys2Proof.Machine.execTstB ea s
  | .tstW ea => Sys2Proof.Machine.execTstW ea s
  | .tstL ea => Sys2Proof.Machine.execTstL ea s
  | .tas ea => Sys2Proof.Machine.execTas ea s
  | .illegal => Sys2Proof.Machine.execIllegal s
  | .trap v => Sys2Proof.Machine.execTrap v s
  | .link an disp => Sys2Proof.Machine.execLink an disp s
  | .unlk an => Sys2Proof.Machine.execUnlk an s
  | .moveToUsp an => Sys2Proof.Machine.execMoveToUsp an s
  | .moveFromUsp an => Sys2Proof.Machine.execMoveFromUsp an s
  | .reset => Sys2Proof.Machine.execReset s
  | .nop => Sys2Proof.Machine.execNop s
  | .stop imm => Sys2Proof.Machine.execStop imm s
  | .rte => Sys2Proof.Machine.execRte s
  | .rts => Sys2Proof.Machine.execRts s
  | .trapv => Sys2Proof.Machine.execTrapv s
  | .rtr => Sys2Proof.Machine.execRtr s
  | .jsr ea => Sys2Proof.Machine.execJsr ea s
  | .jmp ea => Sys2Proof.Machine.execJmp ea s
  | .addqB q ea => Sys2Proof.Machine.execAddqB q ea s
  | .addqW q ea => Sys2Proof.Machine.execAddqW q ea s
  | .addqL q ea => Sys2Proof.Machine.execAddqL q ea s
  | .subqB q ea => Sys2Proof.Machine.execSubqB q ea s
  | .subqW q ea => Sys2Proof.Machine.execSubqW q ea s
  | .subqL q ea => Sys2Proof.Machine.execSubqL q ea s
  | .st ea => Sys2Proof.Machine.execSt ea s
  | .sf ea => Sys2Proof.Machine.execSf ea s
  | .shi ea => Sys2Proof.Machine.execShi ea s
  | .sls ea => Sys2Proof.Machine.execSls ea s
  | .scc ea => Sys2Proof.Machine.execScc ea s
  | .scs ea => Sys2Proof.Machine.execScs ea s
  | .sne ea => Sys2Proof.Machine.execSne ea s
  | .seq ea => Sys2Proof.Machine.execSeq ea s
  | .svc ea => Sys2Proof.Machine.execSvc ea s
  | .svs ea => Sys2Proof.Machine.execSvs ea s
  | .spl ea => Sys2Proof.Machine.execSpl ea s
  | .smi ea => Sys2Proof.Machine.execSmi ea s
  | .sge ea => Sys2Proof.Machine.execSge ea s
  | .slt ea => Sys2Proof.Machine.execSlt ea s
  | .sgt ea => Sys2Proof.Machine.execSgt ea s
  | .sle ea => Sys2Proof.Machine.execSle ea s
  | .dbt dn disp => Sys2Proof.Machine.execDbt dn disp s
  | .dbf dn disp => Sys2Proof.Machine.execDbf dn disp s
  | .dbhi dn disp => Sys2Proof.Machine.execDbhi dn disp s
  | .dbls dn disp => Sys2Proof.Machine.execDbls dn disp s
  | .dbcc dn disp => Sys2Proof.Machine.execDbcc dn disp s
  | .dbcs dn disp => Sys2Proof.Machine.execDbcs dn disp s
  | .dbne dn disp => Sys2Proof.Machine.execDbne dn disp s
  | .dbeq dn disp => Sys2Proof.Machine.execDbeq dn disp s
  | .dbvc dn disp => Sys2Proof.Machine.execDbvc dn disp s
  | .dbvs dn disp => Sys2Proof.Machine.execDbvs dn disp s
  | .dbpl dn disp => Sys2Proof.Machine.execDbpl dn disp s
  | .dbmi dn disp => Sys2Proof.Machine.execDbmi dn disp s
  | .dbge dn disp => Sys2Proof.Machine.execDbge dn disp s
  | .dblt dn disp => Sys2Proof.Machine.execDblt dn disp s
  | .dbgt dn disp => Sys2Proof.Machine.execDbgt dn disp s
  | .dble dn disp => Sys2Proof.Machine.execDble dn disp s
  | .bra d => Sys2Proof.Machine.execBra d s
  | .bsr d => Sys2Proof.Machine.execBsr d s
  | .bhi d => Sys2Proof.Machine.execBhi d s
  | .bls d => Sys2Proof.Machine.execBls d s
  | .bcc d => Sys2Proof.Machine.execBcc d s
  | .bcs d => Sys2Proof.Machine.execBcs d s
  | .bne d => Sys2Proof.Machine.execBne d s
  | .beq d => Sys2Proof.Machine.execBeq d s
  | .bvc d => Sys2Proof.Machine.execBvc d s
  | .bvs d => Sys2Proof.Machine.execBvs d s
  | .bpl d => Sys2Proof.Machine.execBpl d s
  | .bmi d => Sys2Proof.Machine.execBmi d s
  | .bge d => Sys2Proof.Machine.execBge d s
  | .blt d => Sys2Proof.Machine.execBlt d s
  | .bgt d => Sys2Proof.Machine.execBgt d s
  | .ble d => Sys2Proof.Machine.execBle d s
  | .moveq dn data => Sys2Proof.Machine.execMoveq dn data s
  | .orEaDnB ea dn => Sys2Proof.Machine.execOrEaDnB ea dn s
  | .orEaDnW ea dn => Sys2Proof.Machine.execOrEaDnW ea dn s
  | .orEaDnL ea dn => Sys2Proof.Machine.execOrEaDnL ea dn s
  | .divu ea dn => Sys2Proof.Machine.execDivu ea dn s
  | .sbcd form ry rx => Sys2Proof.Machine.execSbcd form ry rx s
  | .orDnEaB dn ea => Sys2Proof.Machine.execOrDnEaB dn ea s
  | .orDnEaW dn ea => Sys2Proof.Machine.execOrDnEaW dn ea s
  | .orDnEaL dn ea => Sys2Proof.Machine.execOrDnEaL dn ea s
  | .divs ea dn => Sys2Proof.Machine.execDivs ea dn s
  | .subEaDnB ea dn => Sys2Proof.Machine.execSubEaDnB ea dn s
  | .subEaDnW ea dn => Sys2Proof.Machine.execSubEaDnW ea dn s
  | .subEaDnL ea dn => Sys2Proof.Machine.execSubEaDnL ea dn s
  | .subaW ea an => Sys2Proof.Machine.execSubaW ea an s
  | .subxB form ry rx => Sys2Proof.Machine.execSubxB form ry rx s
  | .subxW form ry rx => Sys2Proof.Machine.execSubxW form ry rx s
  | .subxL form ry rx => Sys2Proof.Machine.execSubxL form ry rx s
  | .subDnEaB dn ea => Sys2Proof.Machine.execSubDnEaB dn ea s
  | .subDnEaW dn ea => Sys2Proof.Machine.execSubDnEaW dn ea s
  | .subDnEaL dn ea => Sys2Proof.Machine.execSubDnEaL dn ea s
  | .subaL ea an => Sys2Proof.Machine.execSubaL ea an s
  | .cmpB ea dn => Sys2Proof.Machine.execCmpB ea dn s
  | .cmpW ea dn => Sys2Proof.Machine.execCmpW ea dn s
  | .cmpL ea dn => Sys2Proof.Machine.execCmpL ea dn s
  | .cmpaW ea an => Sys2Proof.Machine.execCmpaW ea an s
  | .cmpmB ay ax => Sys2Proof.Machine.execCmpmB ay ax s
  | .cmpmW ay ax => Sys2Proof.Machine.execCmpmW ay ax s
  | .cmpmL ay ax => Sys2Proof.Machine.execCmpmL ay ax s
  | .eorB dn ea => Sys2Proof.Machine.execEorB dn ea s
  | .eorW dn ea => Sys2Proof.Machine.execEorW dn ea s
  | .eorL dn ea => Sys2Proof.Machine.execEorL dn ea s
  | .cmpaL ea an => Sys2Proof.Machine.execCmpaL ea an s
  | .andEaDnB ea dn => Sys2Proof.Machine.execAndEaDnB ea dn s
  | .andEaDnW ea dn => Sys2Proof.Machine.execAndEaDnW ea dn s
  | .andEaDnL ea dn => Sys2Proof.Machine.execAndEaDnL ea dn s
  | .mulu ea dn => Sys2Proof.Machine.execMulu ea dn s
  | .abcd form ry rx => Sys2Proof.Machine.execAbcd form ry rx s
  | .exgDD rx ry => Sys2Proof.Machine.execExgDD rx ry s
  | .exgAA rx ry => Sys2Proof.Machine.execExgAA rx ry s
  | .exgDA rx ry => Sys2Proof.Machine.execExgDA rx ry s
  | .andDnEaB dn ea => Sys2Proof.Machine.execAndDnEaB dn ea s
  | .andDnEaW dn ea => Sys2Proof.Machine.execAndDnEaW dn ea s
  | .andDnEaL dn ea => Sys2Proof.Machine.execAndDnEaL dn ea s
  | .muls ea dn => Sys2Proof.Machine.execMuls ea dn s
  | .addEaDnB ea dn => Sys2Proof.Machine.execAddEaDnB ea dn s
  | .addEaDnW ea dn => Sys2Proof.Machine.execAddEaDnW ea dn s
  | .addEaDnL ea dn => Sys2Proof.Machine.execAddEaDnL ea dn s
  | .addaW ea an => Sys2Proof.Machine.execAddaW ea an s
  | .addxB form ry rx => Sys2Proof.Machine.execAddxB form ry rx s
  | .addxW form ry rx => Sys2Proof.Machine.execAddxW form ry rx s
  | .addxL form ry rx => Sys2Proof.Machine.execAddxL form ry rx s
  | .addDnEaB dn ea => Sys2Proof.Machine.execAddDnEaB dn ea s
  | .addDnEaW dn ea => Sys2Proof.Machine.execAddDnEaW dn ea s
  | .addDnEaL dn ea => Sys2Proof.Machine.execAddDnEaL dn ea s
  | .addaL ea an => Sys2Proof.Machine.execAddaL ea an s
  | .asrRegB count dn => Sys2Proof.Machine.execAsrRegB count dn s
  | .asrRegW count dn => Sys2Proof.Machine.execAsrRegW count dn s
  | .asrRegL count dn => Sys2Proof.Machine.execAsrRegL count dn s
  | .aslRegB count dn => Sys2Proof.Machine.execAslRegB count dn s
  | .aslRegW count dn => Sys2Proof.Machine.execAslRegW count dn s
  | .aslRegL count dn => Sys2Proof.Machine.execAslRegL count dn s
  | .lsrRegB count dn => Sys2Proof.Machine.execLsrRegB count dn s
  | .lsrRegW count dn => Sys2Proof.Machine.execLsrRegW count dn s
  | .lsrRegL count dn => Sys2Proof.Machine.execLsrRegL count dn s
  | .lslRegB count dn => Sys2Proof.Machine.execLslRegB count dn s
  | .lslRegW count dn => Sys2Proof.Machine.execLslRegW count dn s
  | .lslRegL count dn => Sys2Proof.Machine.execLslRegL count dn s
  | .roxrRegB count dn => Sys2Proof.Machine.execRoxrRegB count dn s
  | .roxrRegW count dn => Sys2Proof.Machine.execRoxrRegW count dn s
  | .roxrRegL count dn => Sys2Proof.Machine.execRoxrRegL count dn s
  | .roxlRegB count dn => Sys2Proof.Machine.execRoxlRegB count dn s
  | .roxlRegW count dn => Sys2Proof.Machine.execRoxlRegW count dn s
  | .roxlRegL count dn => Sys2Proof.Machine.execRoxlRegL count dn s
  | .rorRegB count dn => Sys2Proof.Machine.execRorRegB count dn s
  | .rorRegW count dn => Sys2Proof.Machine.execRorRegW count dn s
  | .rorRegL count dn => Sys2Proof.Machine.execRorRegL count dn s
  | .rolRegB count dn => Sys2Proof.Machine.execRolRegB count dn s
  | .rolRegW count dn => Sys2Proof.Machine.execRolRegW count dn s
  | .rolRegL count dn => Sys2Proof.Machine.execRolRegL count dn s
  | .asrMem ea => Sys2Proof.Machine.execAsrMem ea s
  | .aslMem ea => Sys2Proof.Machine.execAslMem ea s
  | .lsrMem ea => Sys2Proof.Machine.execLsrMem ea s
  | .lslMem ea => Sys2Proof.Machine.execLslMem ea s
  | .roxrMem ea => Sys2Proof.Machine.execRoxrMem ea s
  | .roxlMem ea => Sys2Proof.Machine.execRoxlMem ea s
  | .rorMem ea => Sys2Proof.Machine.execRorMem ea s
  | .rolMem ea => Sys2Proof.Machine.execRolMem ea s
  | .linea low => Sys2Proof.Machine.execLinea low s
  | .linef low => Sys2Proof.Machine.execLinef low s
  | .illegalFiller w => Sys2Proof.Machine.execIllegalFiller w s

end Sys2Proof.Machine
end

