-- ==== Sys2Proof/Machine/HostCalls.lean ====
section
/-! DEFINITION. What the host does between two cycles (spec/40_execution_loop.md R153): interrupt signals
and the legacy registry (spec/60_exceptions.md R434 to R441), the bulk path (spec/20_memory.md R84), and the
host call `reset()` (spec/70_reset_and_hazards.md R470). -/

namespace Sys2Proof.Machine

/-- `generateInterrupt()` (R434): set the coalesced latch. -/
def generateInterrupt (s : State) : State := { s with irqPending := true }

/-- The number of the lowest empty slot (R439). -/
def lowestEmpty (slots : Vector (Option IrqHandler) 10) : Option (Fin 10) :=
  (List.finRange 10).find? (fun k => decide (slots[k.val] = none))

/-- Whether a slot holds a handler of a class (R439). -/
def classPresent (slots : Vector (Option IrqHandler) 10) (cls : Nat) : Bool :=
  (List.finRange 10).any (fun k => match slots[k.val] with
    | some h => decide (h.cls = cls)
    | none => false)

/-- What `registerHandler` returns (R439): the index of the slot, or -1 for a refusal. -/
def registerResult (h : IrqHandler) (s : State) : Int :=
  if classPresent s.irqSlots h.cls then -1
  else
    match lowestEmpty s.irqSlots with
    | some k => (k.val : Int)
    | none => -1

/-- `registerHandler(class, level, handler)` (R439): the returned index goes to the host. -/
def registerHandler (h : IrqHandler) (s : State) : State :=
  { s with
    irqSlots :=
      (if classPresent s.irqSlots h.cls then s.irqSlots
       else
        match lowestEmpty s.irqSlots with
        | some k => s.irqSlots.set k.val (some h)
        | none => s.irqSlots)
    events := s.events ++ [.registration (registerResult h s)] }

/-- `unregisterHandler(index)` (R440): an index outside 0 to 9 does nothing. -/
def unregisterHandler (index : Int) (s : State) : State :=
  if h : 0 ≤ index ∧ index < 10 then
    { s with irqSlots := s.irqSlots.set index.toNat none (by omega) }
  else s

/-- `reset()` (R470): the status register is written directly, without the swap; memory and the registry
stay. -/
def hostReset (s : State) : State :=
  { s with
    d := s.config.resetD
    a := s.config.resetA.push (s.memRead .l 0#32)
    usp := s.config.resetUsp
    ssp := s.config.resetSsp
    pc := (s.memRead .l 4#32).extractLsb' 1 31
    sr := StatusReg.ofWord 0x2700#16
    traceEnabled := false
    irqPending := false
    stopped := false }

/-- One host call. -/
def hostCall (call : HostCall) (s : State) : State :=
  match call with
  | .generateInterrupt => generateInterrupt s
  | .generateInterruptAt _ => generateInterrupt s
  | .registerHandler h => registerHandler h s
  | .unregisterHandler index => unregisterHandler index s
  | .bulkWrite dest bytes => s.bulkWrite dest bytes
  | .reset => hostReset s

/-- The host calls of one cycle boundary, in order. -/
def hostCalls : List HostCall → State → State
  | [], s => s
  | call :: rest, s => hostCalls rest (hostCall call s)

/-- The boundary before a cycle: the events of the last cycle are gone (R149), and the calls the input
stream holds for this boundary are made (R437). -/
def deliverInputs (s : State) : State :=
  hostCalls (s.hostInputs.headD [])
    { s with events := [], outcome := .goOn, hostInputs := s.hostInputs.tail }

/-- The machine after construction and before the first `reset()` (R471), for a configuration: memory all
zero, the registry empty. The registers hold what `reset()` will leave in them. -/
def construct (c : Config) : State where
  d            := c.resetD
  a            := c.resetA.push 0#32
  usp          := c.resetUsp
  ssp          := c.resetSsp
  pc           := 0#31
  sr           := StatusReg.ofWord 0x2700#16
  traceEnabled := false
  stopped      := false
  irqPending   := false
  irqSlots     := Vector.replicate 10 none
  mem          := { cells := [] }
  events       := []
  outcome      := .goOn
  hostInputs   := []
  hostTraps    := []
  draws        := 0
  config       := c

end Sys2Proof.Machine
end

