-- ==== Sys2Proof/Machine/Cycle.lean ====
section
/-! DEFINITION. The cycle of the execution loop (spec/40_execution_loop.md R145 to R152), in pieces that
`Step.lean` only puts together. -/

namespace Sys2Proof.Machine

/-- Whether step 1 takes the interrupt (R145): the latch, and the mask where gating is on (D7). -/
def interruptTaken (s : State) : Bool :=
  s.irqPending && (!s.config.intMaskGating || decide (s.sr.i.toNat < s.config.intLevel.toNat))

/-- The mask after an interrupt entry (R436). -/
def raiseMask (s : State) : State :=
  if s.config.intMaskGating then { s with sr := { s.sr with i := s.config.intLevel } } else s

/-- The interrupt entry (R145, R436): the latch is cleared, then the generic entry. -/
def interruptEntry (s : State) : Result :=
  andThen (enterException s.config.extIntVector { s with irqPending := false, stopped := false })
    (fun s => .next (raiseMask s))

/-- Step 1 (R145). -/
def takeInterrupt (s : State) : Result := if interruptTaken s then interruptEntry s else .next s

/-- The `k`-th word of the instruction stream from `pc` on (R146). -/
def State.streamWord (s : State) (k : Nat) : Word := ((s.memRead .w (s.consume k).pcb)).setWidth 16

/-- The words after the opcode word that an instruction may have. -/
def State.streamExt (s : State) : List Word :=
  [s.streamWord 1, s.streamWord 2, s.streamWord 3, s.streamWord 4]

/-- Step 2 (R146): the instruction at `pc`, its extension words read from the store as its handler will
consume them. No meaning writes memory before it has consumed its words, so reading them at once gives the
same words (R85). -/
def fetchInstr (s : State) : Instr := decodeWord s.config.band (s.streamWord 0) s.streamExt

/-- Steps 2 and 3 (R146, R147): `pc` advances past the opcode word, then the handler runs. -/
def runInstr (s : State) : Result := exec (fetchInstr s) (s.consume 1)

/-- The opcode word of RTE (R148). -/
def opRte : Word := 0x4E73#16

/-- Step 4 (R148): the trace exception, on the trace bit the handler left, but not after RTE. -/
def traceAfter (op : Word) (s : State) : Result :=
  if s.sr.t && decide (op ≠ opRte) then enterException vecTrace s else .next s

/-- Steps 2 to 4 of a cycle, or nothing while stopped (R149, R152). -/
def cycleFetch (s : State) : Result :=
  if s.stopped then .next s else andThen (runInstr s) (traceAfter (s.streamWord 0))

/-- The cycle (R149), after the boundary. -/
def cycle (s : State) : Result := andThen (takeInterrupt s) cycleFetch

/-- The words of `w`, in the order of `tableWords`, stored as the fetch reads them, from a byte address
on. -/
def storeWords (a : Nat) (m : Memory) (ws : List Word) : Memory := m.putBytes a (ws.flatMap wordBytes)

/-- Where `withFetchWord` puts the instruction: at `pc`, or at 0 where the longest instruction does not fit
below the readable boundary from `pc` on. -/
def fetchPlace (s : State) : CellIndex :=
  if cutoff s.config s.pcb + 2 * maxWords ≤ s.config.totalMemSize then s.pc else 0#31

/-- The state with an instruction placed where the next step fetches (see `State.withFetchWord`). -/
def placeInstr (s : State) (nbits w : Nat) : State :=
  { s with
    pc := fetchPlace s
    mem := storeWords (cutoff s.config { s with pc := fetchPlace s }.pcb) s.mem
      (tableWords maxWords (w % 2 ^ nbits))
    stopped := false
    irqPending := false
    hostInputs := [] }

end Sys2Proof.Machine
end

