-- ==== Sys2Proof/Machine/Step.lean ====
section
/-! DEFINITION. One step of the machine: the boundary, where the host acts, and one cycle
(spec/40_execution_loop.md R149). -/

namespace Sys2Proof.Machine

/-- `execute()` (R144): the calls of the boundary, then one cycle. -/
def step (s : State) : Host.Outcome State Fault Refusal := cycle (deliverInputs s)

/-- `s` with the instruction whose bits are `w` stored where `step` fetches its next instruction, and with
nothing that would keep `step` from fetching it (no interrupt, no stop, no host call). Program loading is the
host's bulk write (R84, R471; log 5): this stands for it. -/
def State.withFetchWord (s : State) (nbits w : Nat) : State := placeInstr s nbits w

end Sys2Proof.Machine
end

