-- ==== Sys2Proof/Machine/Drivers.lean ====
section
/-! DEFINITION. The two drivers (spec/40_execution_loop.md R144, R150, R151) and the disassembler face of a
handler (spec/30_encoding.md R122, spec/41_addressing_modes.md R181). -/

namespace Sys2Proof.Machine

/-- `executeContinuous()` (R144): the cycle repeated until it stops or is fatal; the host ends the run from
outside after `n` cycles (R151). -/
def executeContinuous : Nat → State → Result
  | 0, s => .next s
  | n + 1, s =>
    andThen (step s) (fun s' => if s'.outcome = .stop then .next s' else executeContinuous n s')

/-- A disassembled instruction (R122, R181): its address, its instruction with the raw operand values, and
the number of bytes it occupies. No register changes. -/
structure Listing where
  address : Long
  instr   : Instr
  bytes   : Nat
deriving DecidableEq, Repr

/-- The record of the instruction at a cell index (R122). -/
def disassemble (at_ : CellIndex) (s : State) : Listing where
  address := { s with pc := at_ }.pcb
  instr   := fetchInstr { s with pc := at_ }
  bytes   := 2 * (fetchInstr { s with pc := at_ }).length

end Sys2Proof.Machine
end

