-- ==== Sys2Proof/Safety.lean ====
section
/-! DEFINITION. What counts as a sound state and a safe run (spec/70_reset_and_hazards.md R481). -/

namespace Sys2Proof.Machine

/-- No two slots of the registry hold handlers of one class (R481 (f), R439). -/
def registryUnique (slots : Vector (Option IrqHandler) 10) : Prop :=
  ∀ i j : Fin 10, ∀ p q : IrqHandler,
    slots[i.val] = some p → slots[j.val] = some q → p.cls = q.cls → i = j

/-- The invariant of every reachable state (R481): the cached trace flag is the trace bit (a), the memory
is in canonical form and lists nothing beyond the readable boundary (R60), and the registry holds one
handler per class (f). -/
structure State.Inv (s : State) : Prop where
  trace    : s.traceEnabled = s.sr.t
  memory   : s.mem.wf = true
  inside   : s.mem.below s.config.totalMemSize = true
  registry : registryUnique s.irqSlots

/-- Whether a run of `n` cycles meets no fatal exception. -/
def runsFor : Nat → State → Prop
  | 0, _ => True
  | n + 1, s => ∃ s', step s = .next s' ∧ runsFor n s'

end Sys2Proof.Machine
end

