-- ==== Sys2Proof/Certificates/Slice0/Obligations.lean ====
section
/-! DEFINITION. The statements for the provers, and the words they are written in.

A statement of an instruction's result is its completion statement as well: it says that `exec` answers a
next state and what that state holds. The words below say what an instruction leaves unchanged, field by
field, and give results as arithmetic on numbers, not by the model's own operations. -/

namespace Sys2Proof.Claims

open Sys2Proof.Machine

/-! Numbers. -/

/-- The unsigned value of the low `bits(sz)` bits (R7, R8). -/
def uval (sz : Size) (v : Long) : Nat := v.toNat % 2 ^ sizeBits sz

/-- The two's-complement value of the low `bits(sz)` bits (R7). -/
def sval (sz : Size) (v : Long) : Int :=
  if uval sz v < 2 ^ (sizeBits sz - 1) then (uval sz v : Int) else (uval sz v : Int) - 2 ^ sizeBits sz

/-- An integer outside the signed range of a size. -/
def signedOverflow (sz : Size) (k : Int) : Prop :=
  k < -(2 ^ (sizeBits sz - 1) : Int) ∨ (2 ^ (sizeBits sz - 1) : Int) ≤ k

/-- The value of the low `bits(sz)` bits of a register after a write of `v` into them (R23): the other
bits are the register's. -/
def mergedNat (sz : Size) (old : Long) (v : Nat) : Nat :=
  old.toNat / 2 ^ sizeBits sz * 2 ^ sizeBits sz + v % 2 ^ sizeBits sz

/-! Condition codes, as arithmetic (R191, R192 "Equivalent arithmetic statement", R194, R195). -/

/-- The flags of `d + s + x` at a size, with the zero flag in a form of its own. -/
def CarryFlags (sz : Size) (s d : Long) (x : Bool) (f : Flags) : Prop :=
  (f.c = true ↔ 2 ^ sizeBits sz ≤ uval sz d + uval sz s + x.toNat) ∧ f.x = f.c
  ∧ (f.v = true ↔ signedOverflow sz (sval sz d + sval sz s + x.toNat))
  ∧ (f.n = true ↔ 2 ^ (sizeBits sz - 1) ≤ (uval sz d + uval sz s + x.toNat) % 2 ^ sizeBits sz)

/-- The flags of `d - s - x` at a size but for `X` and `Z`. -/
def BorrowFlags (sz : Size) (s d : Long) (x : Bool) (f : Flags) : Prop :=
  (f.c = true ↔ uval sz d < uval sz s + x.toNat)
  ∧ (f.v = true ↔ signedOverflow sz (sval sz d - sval sz s - x.toNat))
  ∧ (f.n = true ↔
      2 ^ (sizeBits sz - 1) ≤ (uval sz d + 2 * 2 ^ sizeBits sz - uval sz s - x.toNat) % 2 ^ sizeBits sz)

/-- The sum `d + s + x` as a number. -/
def sumOf (sz : Size) (s d : Long) (x : Bool) : Nat := uval sz d + uval sz s + x.toNat

/-- The difference `d - s - x` as a number that is right modulo `2^bits(sz)`. -/
def differenceOf (sz : Size) (s d : Long) (x : Bool) : Nat :=
  uval sz d + 2 * 2 ^ sizeBits sz - uval sz s - x.toNat

/-- A number is zero at a size. -/
def ZeroAt (sz : Size) (v : Nat) : Prop := v % 2 ^ sizeBits sz = 0

/-- The flags of a logic operation (R195). -/
def LogicFlags (sz : Size) (r : Nat) (old f : Flags) : Prop :=
  (f.n = true ↔ 2 ^ (sizeBits sz - 1) ≤ r % 2 ^ sizeBits sz) ∧ (f.z = true ↔ ZeroAt sz r)
  ∧ f.v = false ∧ f.c = false ∧ f.x = old.x

/-! What stays. -/

/-- What an instruction that is no system instruction leaves: the shadow stack pointers, the system byte,
the cached trace flag, the stopped state, the interrupt latch and registry, the outcome, the inputs, the
configuration. -/
structure KeepsSystem (s t : State) : Prop where
  usp          : t.usp = s.usp
  ssp          : t.ssp = s.ssp
  trace        : t.sr.t = s.sr.t
  supervisor   : t.sr.s = s.sr.s
  mask         : t.sr.i = s.sr.i
  traceEnabled : t.traceEnabled = s.traceEnabled
  stopped      : t.stopped = s.stopped
  irqPending   : t.irqPending = s.irqPending
  irqSlots     : t.irqSlots = s.irqSlots
  outcome      : t.outcome = s.outcome
  hostInputs   : t.hostInputs = s.hostInputs
  hostTraps    : t.hostTraps = s.hostTraps
  config       : t.config = s.config

/-- The system state stays, and `pc` has moved past the instruction's words (R28). -/
structure Advances (i : Instr) (s t : State) : Prop where
  system : KeepsSystem s t
  pc     : t.pc = s.pc + BitVec.ofNat 31 (i.length - 1)

/-- As `Advances`, and no free value is drawn. -/
structure Ordinary (i : Instr) (s t : State) : Prop where
  advances : Advances i s t
  draws    : t.draws = s.draws

/-- As `Ordinary`, for an instruction that goes elsewhere. -/
structure Quiet (s t : State) : Prop where
  system : KeepsSystem s t
  draws  : t.draws = s.draws

/-- The five condition codes stay. -/
def KeepsFlags (s t : State) : Prop := t.sr.ccr = s.sr.ccr

/-- `pc` holds the cell index of a byte address, taken modulo `2^32`; its bit 0 is lost (R29). -/
def GoesTo (target : Int) (t : State) : Prop := (t.pc.toNat : Int) = target % 2 ^ 32 / 2

/-- Every byte of memory reads as before, and no event is emitted. -/
def KeepsMemory (s t : State) : Prop := (∀ x, t.mem.get x = s.mem.get x) ∧ t.events = s.events

/-- Every data register stays. -/
def KeepsD (s t : State) : Prop := ∀ q, t.dreg q = s.dreg q

/-- Every address register stays. -/
def KeepsA (s t : State) : Prop := ∀ q, t.areg q = s.areg q

/-- Registers, flags and memory stay. -/
structure KeepsRest (s t : State) : Prop where
  flags : KeepsFlags s t
  d     : KeepsD s t
  a     : KeepsA s t
  mem   : KeepsMemory s t

/-! Operands. -/

/-- The step of modes 3 and 4 (R174). -/
def modeStep (sz : Size) (r : RegNo) : Long :=
  match sz with
  | .b => if r = 7 then 2#32 else 1#32
  | .w => 2#32
  | .l => 4#32

/-- The address registers after an operand has been resolved (R164, R165). -/
def movedA (ea : EA) (sz : Size) (s : State) (q : RegNo) : Long :=
  match ea with
  | .postInc r => if q = r then s.areg r + modeStep sz r else s.areg q
  | .preDec r => if q = r then s.areg r - modeStep sz r else s.areg q
  | _ => s.areg q

/-- The value of an operand whose extension words follow the opcode word. -/
def operand (ea : EA) (sz : Size) (s : State) : Long := s.readOp (locate ea sz s) sz

/-- The state after a source operand has been resolved and read (R180): its words are consumed, and the
address register of its mode has moved. -/
structure AfterSource (ea : EA) (sz : Size) (s t : State) : Prop where
  quiet : Quiet s t
  flags : KeepsFlags s t
  d     : KeepsD s t
  a     : ∀ q, t.areg q = movedA ea sz s q
  mem   : KeepsMemory s t
  pc    : t.pc = s.pc + BitVec.ofNat 31 (ea.words sz)

/-- A store of the low `bits(sz)` bits of `v` at address `a` (R69 to R72): the stored bytes, every other
byte, and the event. -/
def Stores (sz : Size) (a : Long) (v : Nat) (s t : State) : Prop :=
  (s.writable sz a = true →
    (readBytes t.mem sz (accessAddr s.config sz a)).toNat = v % 2 ^ sizeBits sz)
  ∧ (∀ x, (x < accessAddr s.config sz a ∨ accessAddr s.config sz a + sizeBytes sz ≤ x) →
      t.mem.get x = s.mem.get x)
  ∧ (s.writable sz a = false → ∀ x, t.mem.get x = s.mem.get x)
  ∧ t.events = s.events ++
      (if s.writable sz a = true ∧ s.config.screenStart ≤ accessAddr s.config sz a then
        [.screenWrite sz (accessAddr s.config sz a) (BitVec.ofNat 32 (v % 2 ^ sizeBits sz))]
       else [])

/-- A write of `v` into the low bits of a data register; every other data register stays (R23). -/
def WritesD (sz : Size) (r : RegNo) (v : Nat) (s t : State) : Prop :=
  (t.dreg r).toNat = mergedNat sz (s.dreg r) v ∧ ∀ q, q ≠ r → t.dreg q = s.dreg q

/-- A write of `v` into an operand, a data register or memory, and nothing else written (R178). -/
def Writes (ea : EA) (sz : Size) (v : Nat) (s t : State) : Prop :=
  match ea with
  | .dn r => WritesD sz r v s t ∧ KeepsA s t ∧ KeepsMemory s t
  | _ =>
    KeepsD s t ∧ (∀ q, t.areg q = movedA ea sz s q)
    ∧ match locate ea sz s with
      | .mem a => Stores sz a v s t
      | _ => False

/-- Only the flags, `pc` and the address register of the mode have changed. -/
def OnlyFlags (ea : EA) (sz : Size) (s t : State) : Prop :=
  KeepsD s t ∧ (∀ q, t.areg q = movedA ea sz s q) ∧ KeepsMemory s t

/-- `A7` where an instruction swaps the stack pointers (R34): with the operand of MOVE to SR read, and the
frame of RTE popped, where they are not turned away in user mode; with the operand of CHK, DIVU and DIVS read,
whose exceptions come after it (R432); as it stands for every other instruction. -/
def stackAtSwap (i : Instr) (s : State) : Long :=
  match i with
  | .moveToSr ea => if s.sr.s = true then movedA ea .w s 7 else s.areg 7
  | .rte => if s.sr.s = true then s.areg 7 + 6#32 else s.areg 7
  | .chk ea _ | .divu ea _ | .divs ea _ => movedA ea .w s 7
  | _ => s.areg 7

/-- A push of a long (R179). -/
def PushesLong (v : Long) (s t : State) : Prop :=
  KeepsD s t ∧ (∀ q, t.areg q = if q = 7 then s.areg 7 - 4#32 else s.areg q)
  ∧ Stores .l (s.areg 7 - 4#32) v.toNat s t

/-! The instructions of a shape, by size. -/

def addEaDn : Size → EA → RegNo → Instr
  | .b => .addEaDnB | .w => .addEaDnW | .l => .addEaDnL

def subEaDn : Size → EA → RegNo → Instr
  | .b => .subEaDnB | .w => .subEaDnW | .l => .subEaDnL

def addDnEa : Size → RegNo → EA → Instr
  | .b => .addDnEaB | .w => .addDnEaW | .l => .addDnEaL

def subDnEa : Size → RegNo → EA → Instr
  | .b => .subDnEaB | .w => .subDnEaW | .l => .subDnEaL

def addi (sz : Size) (v : Long) : EA → Instr :=
  match sz with
  | .b => .addiB (v.setWidth 8) | .w => .addiW (v.setWidth 16) | .l => .addiL v

def subi (sz : Size) (v : Long) : EA → Instr :=
  match sz with
  | .b => .subiB (v.setWidth 8) | .w => .subiW (v.setWidth 16) | .l => .subiL v

def cmpi (sz : Size) (v : Long) : EA → Instr :=
  match sz with
  | .b => .cmpiB (v.setWidth 8) | .w => .cmpiW (v.setWidth 16) | .l => .cmpiL v

def addq : Size → BitVec 3 → EA → Instr
  | .b => .addqB | .w => .addqW | .l => .addqL

def subq : Size → BitVec 3 → EA → Instr
  | .b => .subqB | .w => .subqW | .l => .subqL

def cmp : Size → EA → RegNo → Instr
  | .b => .cmpB | .w => .cmpW | .l => .cmpL

def cmpm : Size → RegNo → RegNo → Instr
  | .b => .cmpmB | .w => .cmpmW | .l => .cmpmL

def neg : Size → EA → Instr
  | .b => .negB | .w => .negW | .l => .negL

def negx : Size → EA → Instr
  | .b => .negxB | .w => .negxW | .l => .negxL

def tst : Size → EA → Instr
  | .b => .tstB | .w => .tstW | .l => .tstL

def clr : Size → EA → Instr
  | .b => .clrB | .w => .clrW | .l => .clrL

def notI : Size → EA → Instr
  | .b => .notB | .w => .notW | .l => .notL

def addx : Size → RxForm → RegNo → RegNo → Instr
  | .b => .addxB | .w => .addxW | .l => .addxL

def subx : Size → RxForm → RegNo → RegNo → Instr
  | .b => .subxB | .w => .subxW | .l => .subxL

def move : Size → EA → EA → Instr
  | .b => .moveB | .w => .moveW | .l => .moveL

/-- The logic operations. -/
inductive LogicOp where
  | and | or | eor
deriving DecidableEq, Repr

/-- A logic operation on numbers. -/
def LogicOp.apply : LogicOp → Nat → Nat → Nat
  | .and, a, b => a &&& b
  | .or, a, b => a ||| b
  | .eor, a, b => a ^^^ b

def andEaDn : Size → EA → RegNo → Instr
  | .b => .andEaDnB | .w => .andEaDnW | .l => .andEaDnL

def orEaDn : Size → EA → RegNo → Instr
  | .b => .orEaDnB | .w => .orEaDnW | .l => .orEaDnL

def andDnEa : Size → RegNo → EA → Instr
  | .b => .andDnEaB | .w => .andDnEaW | .l => .andDnEaL

def orDnEa : Size → RegNo → EA → Instr
  | .b => .orDnEaB | .w => .orDnEaW | .l => .orDnEaL

def eorDnEa : Size → RegNo → EA → Instr
  | .b => .eorB | .w => .eorW | .l => .eorL

def andi (sz : Size) (v : Long) : EA → Instr :=
  match sz with
  | .b => .andiB (v.setWidth 8) | .w => .andiW (v.setWidth 16) | .l => .andiL v

def ori (sz : Size) (v : Long) : EA → Instr :=
  match sz with
  | .b => .oriB (v.setWidth 8) | .w => .oriW (v.setWidth 16) | .l => .oriL v

def eori (sz : Size) (v : Long) : EA → Instr :=
  match sz with
  | .b => .eoriB (v.setWidth 8) | .w => .eoriW (v.setWidth 16) | .l => .eoriL v

def shiftRegI : ShiftOp → Size → ShiftCount → RegNo → Instr
  | .asl, .b => .aslRegB | .asl, .w => .aslRegW | .asl, .l => .aslRegL
  | .asr, .b => .asrRegB | .asr, .w => .asrRegW | .asr, .l => .asrRegL
  | .lsl, .b => .lslRegB | .lsl, .w => .lslRegW | .lsl, .l => .lslRegL
  | .lsr, .b => .lsrRegB | .lsr, .w => .lsrRegW | .lsr, .l => .lsrRegL
  | .rol, .b => .rolRegB | .rol, .w => .rolRegW | .rol, .l => .rolRegL
  | .ror, .b => .rorRegB | .ror, .w => .rorRegW | .ror, .l => .rorRegL
  | .roxl, .b => .roxlRegB | .roxl, .w => .roxlRegW | .roxl, .l => .roxlRegL
  | .roxr, .b => .roxrRegB | .roxr, .w => .roxrRegW | .roxr, .l => .roxrRegL

def shiftMemI : ShiftOp → EA → Instr
  | .asl => .aslMem | .asr => .asrMem | .lsl => .lslMem | .lsr => .lsrMem
  | .rol => .rolMem | .ror => .rorMem | .roxl => .roxlMem | .roxr => .roxrMem

def scc : Cond → EA → Instr
  | .t => .st | .f => .sf | .hi => .shi | .ls => .sls | .cc => .scc | .cs => .scs | .ne => .sne
  | .eq => .seq | .vc => .svc | .vs => .svs | .pl => .spl | .mi => .smi | .ge => .sge | .lt => .slt
  | .gt => .sgt | .le => .sle

def dbcc : Cond → RegNo → Word → Instr
  | .t => .dbt | .f => .dbf | .hi => .dbhi | .ls => .dbls | .cc => .dbcc | .cs => .dbcs | .ne => .dbne
  | .eq => .dbeq | .vc => .dbvc | .vs => .dbvs | .pl => .dbpl | .mi => .dbmi | .ge => .dbge
  | .lt => .dblt | .gt => .dbgt | .le => .dble

/-- Bcc; the codes of T and F are BRA and BSR (R205), and T here is BRA. -/
def bcc : Cond → BranchDisp → Instr
  | .t | .f => .bra | .hi => .bhi | .ls => .bls | .cc => .bcc | .cs => .bcs | .ne => .bne
  | .eq => .beq | .vc => .bvc | .vs => .bvs | .pl => .bpl | .mi => .bmi | .ge => .bge | .lt => .blt
  | .gt => .bgt | .le => .ble

/-- The table of R205. -/
def CondTrue (k : Cond) (f : Flags) : Prop :=
  match k with
  | .t => True
  | .f => False
  | .hi => f.c = false ∧ f.z = false
  | .ls => f.c = true ∨ f.z = true
  | .cc => f.c = false
  | .cs => f.c = true
  | .ne => f.z = false
  | .eq => f.z = true
  | .vc => f.v = false
  | .vs => f.v = true
  | .pl => f.n = false
  | .mi => f.n = true
  | .ge => f.n = f.v
  | .lt => f.n ≠ f.v
  | .gt => f.z = false ∧ f.n = f.v
  | .le => f.z = true ∨ f.n ≠ f.v

/-- The value of the quick field (R109). -/
def quickNat (q : BitVec 3) : Nat := if q = 0#3 then 8 else q.toNat

def bitRegI : BitOp → RegNo → EA → Instr
  | .tst => .btstReg | .chg => .bchgReg | .clr => .bclrReg | .set => .bsetReg

def bitImmI : BitOp → Byte → EA → Instr
  | .tst => .btstImm | .chg => .bchgImm | .clr => .bclrImm | .set => .bsetImm

/-- The instructions of R340 that check for supervisor mode. -/
def IsPrivileged (i : Instr) : Prop :=
  i = .rte ∨ i = .reset ∨ (∃ w, i = .stop w) ∨ (∃ ea, i = .moveToSr ea) ∨ (∃ w, i = .andiToSr w)
  ∨ (∃ w, i = .oriToSr w) ∨ (∃ w, i = .eoriToSr w) ∨ (∃ r, i = .moveToUsp r) ∨ (∃ r, i = .moveFromUsp r)

/-! Additions and subtractions. -/

/-- All five flags of an addition (R191). -/
def AddFlags (sz : Size) (s d : Long) (f : Flags) : Prop :=
  CarryFlags sz s d false f ∧ (f.z = true ↔ ZeroAt sz (sumOf sz s d false))

/-- All five flags of a subtraction `d - s` (R192). -/
def SubFlags (sz : Size) (s d : Long) (f : Flags) : Prop :=
  BorrowFlags sz s d false f ∧ f.x = f.c ∧ (f.z = true ↔ ZeroAt sz (differenceOf sz s d false))

/-- The flags of a compare of `s` with `d` (R193). -/
def CompareFlags (sz : Size) (s d : Long) (old f : Flags) : Prop :=
  BorrowFlags sz s d false f ∧ f.x = old.x ∧ (f.z = true ↔ ZeroAt sz (differenceOf sz s d false))

/-- The operand of one side of the `RX_RY` format (R104, R245). -/
def pairEA : RxForm → RegNo → EA
  | .dreg, r => .dn r
  | .predec, r => .preDec r

/-! The status register. -/

/-- The condition codes are bits 4 to 0 of a number (R31, R35). -/
def CcrIs (n : Nat) (f : Flags) : Prop :=
  f.x = n.testBit 4 ∧ f.n = n.testBit 3 ∧ f.z = n.testBit 2 ∧ f.v = n.testBit 1 ∧ f.c = n.testBit 0

/-- The status register, and the cached trace flag, as a write of a word leaves them (R30, R34, R38). -/
def SrIs (w : Nat) (t : State) : Prop :=
  t.sr.t = w.testBit 15 ∧ t.sr.s = w.testBit 13 ∧ t.sr.i.toNat = w / 256 % 8 ∧ CcrIs w t.sr.ccr
  ∧ t.traceEnabled = w.testBit 15

/-- What a write of the status register in supervisor mode does to the stack pointers, `sp` being `A7`
before it (R34). -/
def StacksAfter (w : Nat) (sp : Long) (s t : State) : Prop :=
  t.usp = s.usp
  ∧ (w.testBit 13 = true → t.areg 7 = sp ∧ t.ssp = s.ssp)
  ∧ (w.testBit 13 = false → t.areg 7 = s.usp ∧ t.ssp = sp)

/-- What no write of the status register touches but for the stopped state. -/
structure KeepsHost (s t : State) : Prop where
  irqPending : t.irqPending = s.irqPending
  irqSlots   : t.irqSlots = s.irqSlots
  outcome    : t.outcome = s.outcome
  hostInputs : t.hostInputs = s.hostInputs
  hostTraps  : t.hostTraps = s.hostTraps
  draws      : t.draws = s.draws
  config     : t.config = s.config

/-! Exceptions. -/

/-- The stack pointer an entry pushes from: the supervisor one, wherever it is (R36). -/
def stackBase (s : State) : Long := if s.sr.s = true then s.areg 7 else s.ssp

/-- The state an entry leaves before it reads its vector: the frame of R425 with the stacked address
`ra`, the mode, the stack pointers; with `generic` as R428 says, else as R431 says. -/
structure Entered (ra : Long) (generic : Bool) (s u : State) : Prop where
  d            : KeepsD s u
  sp           : u.areg 7 = stackBase s - 6#32
  a            : ∀ q, q ≠ 7 → u.areg q = s.areg q
  usp          : u.usp = if s.sr.s = true then s.usp else s.areg 7
  ssp          : u.ssp = s.ssp
  supervisor   : u.sr.s = true
  trace        : u.sr.t = if generic = true then false else s.sr.t
  mask         : u.sr.i = s.sr.i
  flags        : KeepsFlags s u
  traceEnabled : u.traceEnabled = u.sr.t
  stopped      : u.stopped = if generic = true then false else s.stopped
  pc           : u.pc = s.pc
  host         : KeepsHost s u
  frame        : ∃ m : State, m.config = s.config
    ∧ Stores .l (stackBase s - 4#32) ra.toNat s m
    ∧ Stores .w (stackBase s - 6#32) s.sr.toWord.toNat m u

/-- The target of a vector: the long at `4v`, or where it is zero the long at 60 (R428). -/
def vectorOf (v : Nat) (u : State) : Long :=
  if u.memRead .l (BitVec.ofNat 32 (4 * v)) = 0#32 then u.memRead .l 60#32
  else u.memRead .l (BitVec.ofNat 32 (4 * v))

/-- The exception `v` has been taken: the entry, and `pc` at the target of the vector. -/
def Takes (v : Nat) (ra : Long) (generic : Bool) (s t : State) : Prop :=
  ∃ u, Entered ra generic s u ∧ vectorOf v u ≠ 0#32
    ∧ t = { u with pc := (vectorOf v u).extractLsb' 1 31 }

/-- The exception `v` was fatal: the entry, and both vectors zero (R430). -/
def Fails (v : Nat) (ra : Long) (generic : Bool) (s : State) (r : Result) : Prop :=
  ∃ u, Entered ra generic s u ∧ vectorOf v u = 0#32 ∧ r = .fault (.fatal v u)

/-- An answer takes the generic exception `v` from `s`: it goes on where the vector has a target, and is
fatal where it has none. -/
def Raises (v : Nat) (s : State) (r : Result) : Prop :=
  (s.entryState.vectorTarget v ≠ 0#32 → ∃ t, r = .next t ∧ Takes v s.pcb true s t)
  ∧ (s.entryState.vectorTarget v = 0#32 → Fails v s.pcb true s r)

/-- The state a step works on once the boundary has passed with no host call: no event yet (R149). -/
def boundary (s : State) : State :=
  { s with events := [], outcome := .goOn, hostInputs := s.hostInputs.tail }

/-- No host call is made at this boundary. -/
def NoCall (s : State) : Prop := s.hostInputs.headD [] = []

/-- The opcode word at `pc`. -/
def opcodeAt (s : State) : Word := s.streamWord 0

/-! Shifts in closed form (R292 to R299), for an operand `d < 2^n` and a count `c`. -/

/-- The result of a shift. -/
structure ShiftSpec where
  r : Nat
  x : Bool
  c : Bool
  v : Bool
deriving DecidableEq, Repr

/-- The bit shifted out last to the left, of ASL and LSL (R292). -/
def leftOut (n d c : Nat) : Bool := decide (1 ≤ c) && decide (c ≤ n) && d.testBit (n - c)

/-- Whether the top `c + 1` bits of `d` differ among themselves; for `c ≥ n` whether `d` is not zero
(R292). -/
def signChanges (n d c : Nat) : Bool :=
  if c < n then decide (d / 2 ^ (n - 1 - c) ≠ 0) && decide (d / 2 ^ (n - 1 - c) ≠ 2 ^ (c + 1) - 1)
  else decide (d ≠ 0)

def aslSpec (n d c : Nat) (x : Bool) : ShiftSpec where
  r := d * 2 ^ c % 2 ^ n
  x := if c = 0 then x else leftOut n d c
  c := leftOut n d c
  v := signChanges n d c

def lslSpec (n d c : Nat) (x : Bool) : ShiftSpec where
  r := d * 2 ^ c % 2 ^ n
  x := if c = 0 then x else leftOut n d c
  c := leftOut n d c
  v := false

/-- The two's-complement value of an `n`-bit number. -/
def signedNat (n d : Nat) : Int := if d < 2 ^ (n - 1) then (d : Int) else (d : Int) - 2 ^ n

def asrSpec (n d c : Nat) (x : Bool) : ShiftSpec where
  r := (signedNat n d / 2 ^ c % 2 ^ n).toNat
  x := if c = 0 then x else if c ≤ n then d.testBit (c - 1) else d.testBit (n - 1)
  c := if c = 0 then false else if c ≤ n then d.testBit (c - 1) else d.testBit (n - 1)
  v := false

def lsrSpec (n d c : Nat) (x : Bool) : ShiftSpec where
  r := d / 2 ^ c
  x := if c = 0 then x else decide (c ≤ n) && d.testBit (c - 1)
  c := decide (1 ≤ c) && decide (c ≤ n) && d.testBit (c - 1)
  v := false

/-- The rotation of an `n`-bit number to the left by `k < n` (R296, R298). -/
def rotlNat (n d k : Nat) : Nat := d * 2 ^ k % 2 ^ n + d / 2 ^ (n - k)

/-- The rotation of an `n`-bit number to the right by `k < n` (R297, R299). -/
def rotrNat (n d k : Nat) : Nat := d / 2 ^ k + d * 2 ^ (n - k) % 2 ^ n

def rolSpec (n d c : Nat) (x : Bool) : ShiftSpec where
  r := rotlNat n d (c % n)
  x := x
  c := decide (1 ≤ c) && (rotlNat n d (c % n)).testBit 0
  v := false

def rorSpec (n d c : Nat) (x : Bool) : ShiftSpec where
  r := rotrNat n d (c % n)
  x := x
  c := decide (1 ≤ c) && (rotrNat n d (c % n)).testBit (n - 1)
  v := false

/-- The value `X :: d` rotated left (R298). -/
def roxlSpec (n d c : Nat) (x : Bool) : ShiftSpec where
  r := rotlNat (n + 1) (x.toNat * 2 ^ n + d) (c % (n + 1)) % 2 ^ n
  x := (rotlNat (n + 1) (x.toNat * 2 ^ n + d) (c % (n + 1))).testBit n
  c := (rotlNat (n + 1) (x.toNat * 2 ^ n + d) (c % (n + 1))).testBit n
  v := false

/-- The value `d :: X` rotated right (R299). -/
def roxrSpec (n d c : Nat) (x : Bool) : ShiftSpec where
  r := rotrNat (n + 1) (d * 2 + x.toNat) (c % (n + 1)) / 2
  x := (rotrNat (n + 1) (d * 2 + x.toNat) (c % (n + 1))).testBit 0
  c := (rotrNat (n + 1) (d * 2 + x.toNat) (c % (n + 1))).testBit 0
  v := false

def shiftSpec : ShiftOp → Nat → Nat → Nat → Bool → ShiftSpec
  | .asl => aslSpec | .asr => asrSpec | .lsl => lslSpec | .lsr => lsrSpec
  | .rol => rolSpec | .ror => rorSpec | .roxl => roxlSpec | .roxr => roxrSpec

/-- The flags of a shift of an `n`-bit operand (R291). -/
def ShiftFlagsAre (n : Nat) (p : ShiftSpec) (f : Flags) : Prop :=
  f.x = p.x ∧ f.c = p.c ∧ f.v = p.v ∧ (f.n = true ↔ 2 ^ (n - 1) ≤ p.r) ∧ (f.z = true ↔ p.r = 0)

/-- The count of a register form (R291). -/
def countOf (c : ShiftCount) (s : State) : Nat :=
  match c with
  | .imm k => quickNat k
  | .reg r => (s.dreg r).toNat % 64

/-- A register form of a shift does what its closed form says. -/
def ShiftsAs (op : ShiftOp) : Prop :=
  ∀ (sz : Size) (c : ShiftCount) (dn : RegNo) (s : State), ∃ t : State,
    exec (shiftRegI op sz c dn) s = .next t
    ∧ Ordinary (shiftRegI op sz c dn) s t ∧ KeepsA s t ∧ KeepsMemory s t
    ∧ WritesD sz dn (shiftSpec op (sizeBits sz) (uval sz (s.dreg dn)) (countOf c s) s.sr.ccr.x).r s t
    ∧ ShiftFlagsAre (sizeBits sz)
        (shiftSpec op (sizeBits sz) (uval sz (s.dreg dn)) (countOf c s) s.sr.ccr.x) t.sr.ccr

/-! Bits. -/

/-- The size a bit instruction works at (R301). -/
def bitSize : EA → Size
  | .dn _ => .l
  | .an _ | .ind _ | .postInc _ | .preDec _ | .disp _ _ | .index _ _ | .absW _ | .absL _ | .pcDisp _
  | .pcIndex _ | .imm _ => .b

/-- A number with bit `k` changed as a bit instruction changes it (R301). -/
def BitWritten (op : BitOp) (k v r : Nat) : Prop :=
  ∀ j, r.testBit j =
    if j = k then
      match op with
      | .tst => v.testBit j
      | .chg => !v.testBit j
      | .clr => false
      | .set => true
    else v.testBit j

/-- What a bit instruction with bit number `b` does from a state whose operand comes next (R301). -/
def BitDone (op : BitOp) (b : Nat) (ea : EA) (s t : State) : Prop :=
  t.sr.ccr = { s.sr.ccr with
      z := !(uval (bitSize ea) (operand ea (bitSize ea) s)).testBit (b % sizeBits (bitSize ea)) }
  ∧ (op = .tst → OnlyFlags ea .b s t)
  ∧ (op ≠ .tst → ∃ r,
      BitWritten op (b % sizeBits (bitSize ea)) (uval (bitSize ea) (operand ea (bitSize ea) s)) r
      ∧ Writes ea (bitSize ea) r s t)

/-! Sequences of accesses. -/

/-- The stores of a list of addresses and values, in order. -/
def storeAll (sz : Size) (l : List (Long × Long)) (s : State) : State :=
  l.foldl (fun u p => u.memWrite sz p.1 p.2) s

/-- The registers a mask selects, the lowest-numbered bit first (R110, R216). -/
def selected (mask : Word) : List XRegNo := (List.finRange 16).filter (fun k => mask.getLsbD k.val)

/-- The addresses and values of MOVEM at ascending addresses from `a` (R214): registers in the order `D0`
to `A7`. -/
def ascending (sz : Size) (mask : Word) (a : Long) (s : State) : List (Long × Long) :=
  (selected mask).zipIdx.map (fun p => (a + BitVec.ofNat 32 (sizeBytes sz * p.2), s.xreg p.1))

/-- The addresses and values of MOVEM at descending addresses from `a` (R214): bit `i` names `R[15-i]`. -/
def descending (sz : Size) (mask : Word) (a : Long) (s : State) : List (Long × Long) :=
  (selected mask).zipIdx.map
    (fun p => (a - BitVec.ofNat 32 (sizeBytes sz * (p.2 + 1)), s.xreg ⟨15 - p.1.val, by omega⟩))

/-- How many registers a mask selects. -/
def countSelected (mask : Word) : Nat := (selected mask).length

/-- How many registers a mask selects below `q`. -/
def countBelow (mask : Word) (q : XRegNo) : Nat :=
  ((selected mask).filter (fun k => decide (k < q))).length

/-! Decimal. -/

/-- Both nibbles are decimal digits (R265). -/
def ValidBcd (n : Nat) : Prop := n % 16 ≤ 9 ∧ n / 16 ≤ 9

/-- The number two decimal digits stand for (R265). -/
def bcdValue (n : Nat) : Nat := n / 16 * 10 + n % 16

/-- The low digits' sum of `bcdAdd` (R265). -/
def bcdLowSum (s d : Nat) (x : Bool) : Int := ((s &&& 0x0F : Nat) : Int) + (d &&& 0x0F : Nat) + x.toNat

/-- The `t` of `bcdAdd` before its carry is taken off (R265), an exact integer. -/
def bcdAddTotal (s d : Nat) (x : Bool) : Int :=
  ((s &&& 0xF0 : Nat) : Int) + (d &&& 0xF0 : Nat) + bcdLowSum s d x + (if 9 < bcdLowSum s d x then 6 else 0)

/-- The low digits' difference of `bcdSub` (R265). -/
def bcdLowDifference (s d : Nat) (x : Bool) : Int := ((d &&& 0x0F : Nat) : Int) - (s &&& 0x0F : Nat) - x.toNat

/-- The `t` of `bcdSub` before its borrow is made good (R265), an exact integer. -/
def bcdSubTotal (s d : Nat) (x : Bool) : Int :=
  ((d &&& 0xF0 : Nat) : Int) - (s &&& 0xF0 : Nat) + bcdLowDifference s d x
    - (if bcdLowDifference s d x < 0 then 6 else 0)

/-- `(r, c)` is what R265 gives for `bcdAdd(s, d, x)`: `c` where `t > 0x99`, and the byte of `t`, less 0xA0
where `c`. For every two bytes, those with a digit above 9 too (D17, log 24). -/
def BcdAdds (s d : Nat) (x : Bool) (p : Nat × Bool) : Prop :=
  (p.2 = true ↔ 0x99 < bcdAddTotal s d x)
  ∧ (p.1 : Int) = (if 0x99 < bcdAddTotal s d x then bcdAddTotal s d x - 0xA0 else bcdAddTotal s d x) % 256

/-- `(r, c)` is what R265 gives for `bcdSub(s, d, x)`: `c` where `t < 0`, and the byte of `t`, 0xA0 more
where `c`. For every two bytes (D17, log 24). -/
def BcdSubs (s d : Nat) (x : Bool) (p : Nat × Bool) : Prop :=
  (p.2 = true ↔ bcdSubTotal s d x < 0)
  ∧ (p.1 : Int) = (if bcdSubTotal s d x < 0 then bcdSubTotal s d x + 0xA0 else bcdSubTotal s d x) % 256

/-- The flags of a decimal operation but for `N` and `V`, which are free (R265). -/
def DecimalFlags (p : Nat × Bool) (old f : Flags) : Prop :=
  f.c = p.2 ∧ f.x = p.2 ∧ (f.z = true ↔ old.z = true ∧ p.1 = 0)

/-! The float bridge. -/

/-- The six bytes of a guest float are stored (R382). -/
def StoresFloat (a : Long) (g : Word × Long) (s t : State) : Prop :=
  ∃ m : State, m.config = s.config ∧ Stores .w a g.1.toNat s m ∧ Stores .l (a + 2#32) g.2.toNat m t

/-- A normalised guest float that is not zero (R385). -/
def Normalised (m : Long) : Prop := m.getLsbD 31 ≠ m.getLsbD 30

/-! Words of the instruction stream. -/

/-- The words from `pc` on are these. -/
def StreamHolds (s : State) (ws : List Word) : Prop :=
  ∀ k, k < ws.length → s.streamWord k = ws.getD k 0#16

/-- An instruction's opcode word lies in the band exactly where it is a host trap (R113, R116). -/
def ClearOfBand (band : HostBand) (i : Instr) : Prop :=
  band.contains ((encode i).headD 0#16) = true ↔ ∃ w, i = .hosttrap w

/-- The two sizes of the instructions that have no byte form. -/
def wl (long : Bool) : Size := if long = true then .l else .w

def movea (long : Bool) : EA → RegNo → Instr := if long = true then .moveaL else .moveaW

def adda (long : Bool) : EA → RegNo → Instr := if long = true then .addaL else .addaW

def suba (long : Bool) : EA → RegNo → Instr := if long = true then .subaL else .subaW

def cmpa (long : Bool) : EA → RegNo → Instr := if long = true then .cmpaL else .cmpaW

def addqA (long : Bool) (q : BitVec 3) (an : RegNo) : Instr :=
  if long = true then .addqL q (.an an) else .addqW q (.an an)

def subqA (long : Bool) (q : BitVec 3) (an : RegNo) : Instr :=
  if long = true then .subqL q (.an an) else .subqW q (.an an)

def movemStoreI (long : Bool) : Word → EA → Instr := if long = true then .movemStoreL else .movemStoreW

def movemLoadI (long : Bool) : Word → EA → Instr := if long = true then .movemLoadL else .movemLoadW

def movepStoreI (long : Bool) : RegNo → RegNo → Word → Instr :=
  if long = true then .movepStoreL else .movepStoreW

def movepLoadI (long : Bool) : RegNo → RegNo → Word → Instr :=
  if long = true then .movepLoadL else .movepLoadW

def ext (long : Bool) : RegNo → Instr := if long = true then .extL else .extW

/-- A branch displacement as a number (R109). -/
def dispInt : BranchDisp → Int
  | .short d => d.toInt
  | .word d => d.toInt

/-- The byte address of the word `k` cells after `pc` (R25, R26). -/
def addressAfter (k : Nat) (s : State) : Long := BitVec.ofNat 32 (2 * (s.pc.toNat + k))

/-- The bytes outside the stores of a list keep their values. -/
def KeepsOutside (sz : Size) (l : List (Long × Long)) (s t : State) : Prop :=
  ∀ x, (∀ p ∈ l, x < accessAddr s.config sz p.1 ∨ accessAddr s.config sz p.1 + sizeBytes sz ≤ x) →
    t.mem.get x = s.mem.get x

/-- A source operand has been read and `k` free values drawn for the flags; `X` stays. -/
structure AfterDrawn (ea : EA) (k : Nat) (s t : State) : Prop where
  system : KeepsSystem s t
  draws  : t.draws = s.draws + k
  x      : t.sr.ccr.x = s.sr.ccr.x
  d      : KeepsD s t
  a      : ∀ q, t.areg q = movedA ea .w s q
  mem    : KeepsMemory s t
  pc     : t.pc = s.pc + BitVec.ofNat 31 (ea.words .w)

/-- A write of the status register in supervisor mode, `sp` being `A7` before it, with the other
registers and memory kept. -/
structure SrWrite (w : Nat) (sp : Long) (s t : State) : Prop where
  sr     : SrIs w t
  stack  : StacksAfter w sp s t
  d      : KeepsD s t
  mem    : KeepsMemory s t
  host   : KeepsHost s t

/-- The operands of a bridge operation (R396, R399). -/
def BridgeOperands (op : FpOp) (s : State) (x y : Double) : Prop :=
  s.readDouble s.floatPtr = some x
  ∧ (fpBinary op.fn = true → s.readDouble (s.floatPtr + 6#32) = some y)
  ∧ (fpBinary op.fn = false → y = x)

/-- Where a bridge operation's result goes, and where its pointer stands afterwards (R396). -/
def bridgeTarget (op : FpOp) (s : State) : Long :=
  if fpBinary op.fn = true ∧ op.variant = .stack then s.floatPtr + 6#32 else s.floatPtr

end Sys2Proof.Claims

section Statements

open Sys2Proof Sys2Proof.Machine Sys2Proof.Claims

/-! Decoding, and one step. -/

/-- Words written out from the encodings of R112 decode to the instructions they stand for. -/
def Obligations.WordsOfTheManualDecode : Prop :=
  decodeWord Config.testT.band 0xD001#16 [] = .addEaDnB (.dn 1) 0
  ∧ decodeWord Config.testT.band 0x0600#16 [0x0001#16] = .addiB 1#8 (.dn 0)
  ∧ decodeWord Config.testT.band 0x3001#16 [] = .moveW (.dn 1) (.dn 0)
  ∧ decodeWord Config.testT.band 0x23FC#16 [0x1122#16, 0x3344#16, 0x0001#16, 0x8000#16]
      = .moveL (.imm 0x11223344#32) (.absL 0x00018000#32)
  ∧ decodeWord Config.testT.band 0x48E7#16 [0xC000#16] = .movemStoreL 0xC000#16 (.preDec 7)
  ∧ decodeWord Config.testT.band 0xE958#16 [] = .rolRegW (.imm 4#3) 0
  ∧ decodeWord Config.testT.band 0x0810#16 [0x0007#16] = .btstImm 7#8 (.ind 0)
  ∧ decodeWord Config.testT.band 0x51C8#16 [0xFFFC#16] = .dbf 0 0xFFFC#16
  ∧ decodeWord Config.testT.band 0x6000#16 [0x0100#16] = .bra (.word 0x0100#16)
  ∧ decodeWord Config.testT.band 0x4E41#16 [] = .trap 1#4
  ∧ decodeWord Config.testT.band 0x46FC#16 [0x2700#16] = .moveToSr (.imm 0x2700#32)
  ∧ decodeWord Config.testT.band 0xA0FF#16 [] = .hosttrap 0xA0FF#16
  ∧ decodeWord Config.testT.band 0xA100#16 [] = .linea 0x100#12
  ∧ decodeWord Config.testT.band 0x4AFC#16 [] = .illegal
  ∧ decodeWord Config.testT.band 0x4AFB#16 [] = .illegalFiller 0x4AFB#16

/-- The bytes of an encoded instruction decode to it, with every operand at every value, and the rest of
the bytes is left (R101 to R119). The host band may be any that holds no word of another instruction. -/
def Obligations.DecodeOfEncodeIsTheInstruction : Prop :=
  ∀ (band : HostBand) (i : Instr) (rest : List Byte), i.wf band = true → ClearOfBand band i →
    decode band ((encode i).flatMap wordBytes ++ rest) = .ok (i, rest)

/-- A word outside the band goes to the illegal filler exactly where no row of the opcode table claims it
(R113, R114): the decoder and the table agree on all 65536 words. -/
def Obligations.FillerIsExactlyTheUnclaimedWords : Prop :=
  ∀ (band : HostBand) (w : Word) (ext : List Word), band.contains w = false →
    (decodeWord band w ext = .illegalFiller w ↔ fillerWord w = true)

/-- A step whose boundary makes no call and takes no interrupt runs the instruction the words at `pc`
decode to, with `pc` past the opcode word, and then makes the trace test (R146 to R149). -/
def Obligations.StepRunsTheDecodedInstruction : Prop :=
  ∀ (s : State) (i : Instr), NoCall s → interruptTaken (boundary s) = false → s.stopped = false →
    decodeWord s.config.band (opcodeAt s)
      [s.streamWord 1, s.streamWord 2, s.streamWord 3, s.streamWord 4] = i →
    step s = andThen (exec i ((boundary s).consume 1)) (fun t =>
      if t.sr.t = true ∧ opcodeAt s ≠ 0x4E73#16 then enterException 9 t else .next t)

/-- The same from the encoding: where the words at `pc` are an instruction's words, the step runs that
instruction. -/
def Obligations.StepRunsTheEncodedInstruction : Prop :=
  ∀ (s : State) (i : Instr), NoCall s → interruptTaken (boundary s) = false → s.stopped = false →
    i.wf s.config.band = true → ClearOfBand s.config.band i → StreamHolds s (encode i) →
    step s = andThen (exec i ((boundary s).consume 1)) (fun t =>
      if t.sr.t = true ∧ (encode i).headD 0#16 ≠ 0x4E73#16 then enterException 9 t else .next t)

/-- A stopped machine that takes no interrupt does nothing in a step but pass the boundary (R152). -/
def Obligations.StoppedMachineIdles : Prop :=
  ∀ s : State, NoCall s → s.stopped = true → interruptTaken (boundary s) = false →
    step s = .next (boundary s)

/-- A pending interrupt that is not held off is taken before the fetch: the latch and the stopped state
are cleared, the generic entry is made through `EXT_INT_VECTOR`, the mask is raised only where gating is on,
and the same step then runs the first instruction of the handler (R145, R436). -/
def Obligations.PendingInterruptIsTakenFirst : Prop :=
  ∀ (s s0 : State), NoCall s → s.irqPending = true →
    (s.config.intMaskGating = true → s.sr.i.toNat < s.config.intLevel.toNat) →
    s0 = { boundary s with irqPending := false, stopped := false } →
    (s0.entryState.vectorTarget s.config.extIntVector ≠ 0#32 → ∃ t u : State,
      Takes s.config.extIntVector s.pcb true s0 t
      ∧ u = { t with sr := { t.sr with i := if s.config.intMaskGating = true then s.config.intLevel else s.sr.i } }
      ∧ step s = andThen (runInstr u) (traceAfter (u.streamWord 0)))
    ∧ (s0.entryState.vectorTarget s.config.extIntVector = 0#32 →
      Fails s.config.extIntVector s.pcb true s0 (step s))

/-- The trace exception follows an instruction on the trace bit it leaves, whatever it was before, but never
RTE; a software trap leaves the bit clear and is not traced (R148). -/
def Obligations.TraceFollowsTheInstruction : Prop :=
  ∀ s : State, NoCall s → interruptTaken (boundary s) = false → s.stopped = false →
    (∀ t, runInstr (boundary s) = .next t → t.sr.t = true → opcodeAt s ≠ 0x4E73#16 →
      Raises 9 t (step s))
    ∧ (∀ t, runInstr (boundary s) = .next t → (t.sr.t = false ∨ opcodeAt s = 0x4E73#16) →
      step s = .next t)
    ∧ (∀ v, fetchInstr (boundary s) = .trap v → step s = exec (.trap v) ((boundary s).consume 1))

/-! The status register. -/

/-- The status register as a word, and back: bit 15 is `T`, bit 13 `S`, bits 10 to 8 the mask, bits 4 to 0
`X N Z V C`; the other bits read zero and are dropped (R30, R31, R32). -/
def Obligations.StatusWordLayout : Prop :=
  (∀ r : StatusReg, r.toWord.toNat = 32768 * r.t.toNat + 8192 * r.s.toNat + 256 * r.i.toNat
      + 16 * r.ccr.x.toNat + 8 * r.ccr.n.toNat + 4 * r.ccr.z.toNat + 2 * r.ccr.v.toNat + r.ccr.c.toNat)
  ∧ (∀ r : StatusReg, StatusReg.ofWord r.toWord = r)
  ∧ (∀ w : Word, (StatusReg.ofWord w).toWord = w &&& 0xA71F#16)

/-- `setSR` swaps the stack pointers exactly where the supervisor bit changes, writes the implemented bits
and recomputes the cached trace flag; MOVE to SR, ANDI, ORI and EORI to SR, STOP and RTE use it, in the state
with their operand read, their word consumed or their frame popped; the two exception entries perform the same
swap; and no instruction but a host trap, which has `setSR` too, changes the supervisor bit without it: the
stack pointer that leaves `A7` is saved in its shadow, the other comes from its own (R34). -/
def Obligations.SetSrSwapsWithTheSupervisorBit : Prop :=
  (∀ (s : State) (v : Word), SrIs v.toNat (s.setSR v)
    ∧ ((s.setSR v).areg 7 =
        if s.sr.s = true ∧ v.getLsbD 13 = false then s.usp
        else if s.sr.s = false ∧ v.getLsbD 13 = true then s.ssp else s.areg 7)
    ∧ ((s.setSR v).ssp = if s.sr.s = true ∧ v.getLsbD 13 = false then s.areg 7 else s.ssp)
    ∧ ((s.setSR v).usp = if s.sr.s = false ∧ v.getLsbD 13 = true then s.areg 7 else s.usp)
    ∧ (∀ q, q ≠ 7 → (s.setSR v).areg q = s.areg q) ∧ KeepsD s (s.setSR v)
    ∧ KeepsMemory s (s.setSR v) ∧ KeepsHost s (s.setSR v))
  ∧ (∀ s : State, s.sr.s = true →
    (∀ ea : EA, (Instr.moveToSr ea).wf s.config.band = true → ∃ s1 : State, AfterSource ea .w s s1
      ∧ exec (.moveToSr ea) s = .next (s1.setSR ((operand ea .w s).setWidth 16)))
    ∧ (∀ imm : Word, exec (.andiToSr imm) s = .next ((s.consume 1).setSR (s.sr.toWord &&& imm)))
    ∧ (∀ imm : Word, exec (.oriToSr imm) s = .next ((s.consume 1).setSR (s.sr.toWord ||| imm)))
    ∧ (∀ imm : Word, exec (.eoriToSr imm) s = .next ((s.consume 1).setSR (s.sr.toWord ^^^ imm)))
    ∧ (∀ imm : Word, exec (.stop imm) s = .next { (s.consume 1).setSR imm with stopped := true })
    ∧ exec .rte s = .next (((s.setA 7 (s.areg 7 + 6#32)).setSR ((s.memRead .w (s.areg 7)).setWidth 16)).setPc
        (s.memRead .l (s.areg 7 + 2#32))))
  ∧ (∀ s u : State, u = s.entryState ∨ u = s.privilegeState → u.sr.s = true
    ∧ u.areg 7 = (if s.sr.s then s.areg 7 else s.ssp) - 6#32
    ∧ u.usp = (if s.sr.s then s.usp else s.areg 7) ∧ u.ssp = s.ssp)
  ∧ (∀ (i : Instr) (s t : State), (∀ w, i ≠ .hosttrap w) → exec i s = .next t →
    (s.sr.s = true → t.sr.s = false →
      t.ssp = stackAtSwap i s ∧ t.areg 7 = s.usp ∧ t.usp = s.usp)
    ∧ (s.sr.s = false → t.sr.s = true →
      t.usp = stackAtSwap i s ∧ t.areg 7 = s.ssp - 6#32 ∧ t.ssp = s.ssp))

/-- In supervisor mode MOVE to SR, ANDI, ORI and EORI to SR and STOP write the whole status register, leave
supervisor mode where bit 13 is clear, and go on past their words, STOP into the stopped state; MOVE USP
moves a register to or from the user stack pointer, and RESET changes nothing (R348, R349, R351, R353 to
R356). -/
def Obligations.SupervisorInstructionsHaveTheirEffect : Prop :=
  ∀ s : State, s.sr.s = true →
    (∀ ea : EA, (Instr.moveToSr ea).wf s.config.band = true → ∃ t, exec (.moveToSr ea) s = .next t
      ∧ SrWrite (operand ea .w s).toNat (movedA ea .w s 7) s t
      ∧ (∀ q, q ≠ 7 → t.areg q = movedA ea .w s q) ∧ t.stopped = s.stopped
      ∧ t.pc = s.pc + BitVec.ofNat 31 (ea.words .w))
    ∧ (∀ imm : Word, ∃ t, exec (.andiToSr imm) s = .next t
      ∧ SrWrite (s.sr.toWord.toNat &&& imm.toNat) (s.areg 7) s t
      ∧ (∀ q, q ≠ 7 → t.areg q = s.areg q) ∧ t.stopped = s.stopped ∧ t.pc = s.pc + 1#31)
    ∧ (∀ imm : Word, ∃ t, exec (.oriToSr imm) s = .next t
      ∧ SrWrite (s.sr.toWord.toNat ||| imm.toNat) (s.areg 7) s t
      ∧ (∀ q, q ≠ 7 → t.areg q = s.areg q) ∧ t.stopped = s.stopped ∧ t.pc = s.pc + 1#31)
    ∧ (∀ imm : Word, ∃ t, exec (.eoriToSr imm) s = .next t
      ∧ SrWrite (s.sr.toWord.toNat ^^^ imm.toNat) (s.areg 7) s t
      ∧ (∀ q, q ≠ 7 → t.areg q = s.areg q) ∧ t.stopped = s.stopped ∧ t.pc = s.pc + 1#31)
    ∧ (∀ imm : Word, ∃ t, exec (.stop imm) s = .next t
      ∧ SrWrite imm.toNat (s.areg 7) s t
      ∧ (∀ q, q ≠ 7 → t.areg q = s.areg q) ∧ t.stopped = true ∧ t.pc = s.pc + 1#31)
    ∧ (∀ an : RegNo, exec (.moveToUsp an) s = .next { s with usp := s.areg an })
    ∧ (∀ an : RegNo, ∃ t, exec (.moveFromUsp an) s = .next t ∧ Ordinary (.moveFromUsp an) s t
      ∧ KeepsFlags s t ∧ KeepsD s t ∧ KeepsMemory s t
      ∧ (∀ q, t.areg q = if q = an then s.usp else s.areg q))
    ∧ exec .reset s = .next s

/-- MOVE to CCR and ANDI, ORI and EORI to CCR write the five condition codes and nothing else, in either
mode; MOVE from SR stores the status word and changes no flag (R283, R286, R289, R350, R352). -/
def Obligations.ConditionCodesAreReadAndWritten : Prop :=
  ∀ s : State,
    (∀ ea : EA, ∃ t, exec (.moveToCcr ea) s = .next t ∧ Ordinary (.moveToCcr ea) s t
      ∧ OnlyFlags ea .w s t ∧ CcrIs (operand ea .w s).toNat t.sr.ccr)
    ∧ (∀ imm : Byte, ∃ t, exec (.andiToCcr imm) s = .next t ∧ Ordinary (.andiToCcr imm) s t
      ∧ KeepsD s t ∧ KeepsA s t ∧ KeepsMemory s t ∧ CcrIs (s.sr.ccr.toByte.toNat &&& imm.toNat) t.sr.ccr)
    ∧ (∀ imm : Byte, ∃ t, exec (.oriToCcr imm) s = .next t ∧ Ordinary (.oriToCcr imm) s t
      ∧ KeepsD s t ∧ KeepsA s t ∧ KeepsMemory s t ∧ CcrIs (s.sr.ccr.toByte.toNat ||| imm.toNat) t.sr.ccr)
    ∧ (∀ imm : Byte, ∃ t, exec (.eoriToCcr imm) s = .next t ∧ Ordinary (.eoriToCcr imm) s t
      ∧ KeepsD s t ∧ KeepsA s t ∧ KeepsMemory s t ∧ CcrIs (s.sr.ccr.toByte.toNat ^^^ imm.toNat) t.sr.ccr)
    ∧ (∀ ea : EA, (Instr.moveFromSr ea).wf s.config.band = true → ∃ t,
      exec (.moveFromSr ea) s = .next t ∧ Ordinary (.moveFromSr ea) s t ∧ KeepsFlags s t
      ∧ Writes ea .w s.sr.toWord.toNat s t)

/-! Exceptions. -/

/-- The generic entry and the privilege path: the frame, the mode, the stack pointers, and the difference
between the two, the stacked address and the trace bit (R425, R428, R431). -/
def Obligations.ExceptionEntryAndPrivilegePath : Prop :=
  (∀ (v : Nat) (s : State), Raises v s (enterException v s))
  ∧ (∀ s : State,
      (s.privilegeState.vectorTarget 8 ≠ 0#32 → ∃ t, privilegeViolation s = .next t
        ∧ Takes 8 (s.pcb - 2#32) false s t)
      ∧ (s.privilegeState.vectorTarget 8 = 0#32 → Fails 8 (s.pcb - 2#32) false s (privilegeViolation s)))

/-- In user mode every privileged instruction takes the privilege violation, whatever its operands, with
the address of the instruction itself stacked, and has none of its own effect (R340, R431). -/
def Obligations.PrivilegedInstructionsTrapInUserMode : Prop :=
  ∀ (i : Instr) (s : State), IsPrivileged i → s.sr.s = false →
    (s.privilegeState.vectorTarget 8 ≠ 0#32 → ∃ t, exec i s = .next t ∧ Takes 8 (s.pcb - 2#32) false s t)
    ∧ (s.privilegeState.vectorTarget 8 = 0#32 → Fails 8 (s.pcb - 2#32) false s (exec i s))

/-- TRAP, ILLEGAL, the filler words and the lines A and F take their vector with the address of the next
word stacked; TRAPV takes vector 7 where `V` is set and changes nothing where it is clear (R341, R342, R344
to R346). -/
def Obligations.TrapInstructionsTakeTheirVector : Prop :=
  ∀ s : State,
    (∀ v : BitVec 4, Raises (32 + v.toNat) s (exec (.trap v) s))
    ∧ Raises 4 s (exec .illegal s)
    ∧ (∀ w : Word, Raises 4 s (exec (.illegalFiller w) s))
    ∧ (∀ low : BitVec 12, Raises 10 s (exec (.linea low) s))
    ∧ (∀ low : BitVec 12, Raises 11 s (exec (.linef low) s))
    ∧ (s.sr.ccr.v = true → Raises 7 s (exec .trapv s))
    ∧ (s.sr.ccr.v = false → exec .trapv s = .next s)

/-- CHK goes on where `0 ≤ Dn ≤ bound`, and else takes vector 6 from the state with its operand read and
`N` telling which side was passed; `Z`, `V`, `C` (and `N` where no trap is taken) are free values (R343). -/
def Obligations.ChkTrapsOutOfBounds : Prop :=
  ∀ (ea : EA) (dn : RegNo) (s : State),
    (0 ≤ sval .w (s.dreg dn) → sval .w (s.dreg dn) ≤ sval .w (operand ea .w s) →
      ∃ t, exec (.chk ea dn) s = .next t ∧ AfterDrawn ea 4 s t)
    ∧ (sval .w (s.dreg dn) < 0 →
      ∃ s1, AfterDrawn ea 3 s s1 ∧ s1.sr.ccr.n = true ∧ Raises 6 s1 (exec (.chk ea dn) s))
    ∧ (0 ≤ sval .w (s.dreg dn) → sval .w (operand ea .w s) < sval .w (s.dreg dn) →
      ∃ s1, AfterDrawn ea 3 s s1 ∧ s1.sr.ccr.n = false ∧ Raises 6 s1 (exec (.chk ea dn) s))

/-- A zero divisor takes vector 5 from the state with the operand read, `C` clear, `X` kept, the
destination unchanged; `N`, `Z`, `V` are free values (R260, R261). -/
def Obligations.ZeroDivisorTakesVectorFive : Prop :=
  ∀ (ea : EA) (dn : RegNo) (s : State), uval .w (operand ea .w s) = 0 → ea.wf .w = true →
    (∃ s1, AfterDrawn ea 3 s s1 ∧ s1.sr.ccr.c = false ∧ Raises 5 s1 (exec (.divu ea dn) s))
    ∧ (∃ s1, AfterDrawn ea 3 s s1 ∧ s1.sr.ccr.c = false ∧ Raises 5 s1 (exec (.divs ea dn) s))

/-- RTE in supervisor mode pops the status word and the address, advances the supervisor stack by six before
any swap, and restores the whole status register (R347, R444). -/
def Obligations.RteRestoresStatusAndAddress : Prop :=
  ∀ s : State, s.sr.s = true → ∃ t, exec .rte s = .next t
    ∧ SrWrite (s.memRead .w (s.areg 7)).toNat (s.areg 7 + 6#32) s t
    ∧ (∀ q, q ≠ 7 → t.areg q = s.areg q) ∧ t.stopped = s.stopped
    ∧ GoesTo (s.memRead .l (s.areg 7 + 2#32)).toNat t

/-- RTE undoes a generic entry: from the handler's first state, at whatever `pc`, every register, the whole
status register and the program counter are back, the user's stack pointer too; only the dead shadow `USP`
of user mode differs (R425, R428, R347). The frame must lie in writable memory and its two parts apart. -/
def Obligations.RteUndoesAnExceptionEntry : Prop :=
  ∀ (v : Nat) (s t : State) (p : CellIndex), s.config.totalRamSize ≤ s.config.totalMemSize →
    s.writable .l (stackBase s - 4#32) = true → s.writable .w (stackBase s - 6#32) = true →
    (accessAddr s.config .w (stackBase s - 6#32) + 2 ≤ accessAddr s.config .l (stackBase s - 4#32)
      ∨ accessAddr s.config .l (stackBase s - 4#32) + 4 ≤ accessAddr s.config .w (stackBase s - 6#32)) →
    enterException v s = .next t →
    ∃ u, exec .rte { t with pc := p } = .next u ∧ u.d = s.d ∧ u.a = s.a ∧ u.sr = s.sr ∧ u.pc = s.pc
      ∧ u.ssp = s.ssp ∧ (s.sr.s = true → u.usp = s.usp) ∧ u.traceEnabled = s.sr.t ∧ u.mem = t.mem

/-! Control flow. -/

/-- BRA and Bcc: the base of the displacement is the address after the opcode word; where the condition is
false the instruction's words are passed (R321, R323, R205). `bcc .t` is BRA. -/
def Obligations.BranchesGoOrFallThrough : Prop :=
  ∀ (k : Cond) (d : BranchDisp) (s : State), k ≠ .f →
    (CondTrue k s.sr.ccr → ∃ t, exec (bcc k d) s = .next t ∧ Quiet s t ∧ KeepsRest s t
      ∧ GoesTo (2 * (s.pc.toNat : Int) + dispInt d) t)
    ∧ (¬ CondTrue k s.sr.ccr → ∃ t, exec (bcc k d) s = .next t ∧ Ordinary (bcc k d) s t ∧ KeepsRest s t)

/-- DBcc: nothing where the condition holds; else the low word of the counter is decremented and the branch
taken unless it passed below zero (R324). -/
def Obligations.DbccCountsDown : Prop :=
  ∀ (k : Cond) (dn : RegNo) (d : Word) (s : State),
    (CondTrue k s.sr.ccr → ∃ t, exec (dbcc k dn d) s = .next t ∧ Ordinary (dbcc k dn d) s t ∧ KeepsRest s t)
    ∧ (¬ CondTrue k s.sr.ccr → ∃ t, exec (dbcc k dn d) s = .next t ∧ Quiet s t ∧ KeepsFlags s t
      ∧ KeepsA s t ∧ KeepsMemory s t ∧ WritesD .w dn (uval .w (s.dreg dn) + 65535) s t
      ∧ (uval .w (s.dreg dn) = 0 → t.pc = s.pc + 1#31)
      ∧ (uval .w (s.dreg dn) ≠ 0 → GoesTo (2 * (s.pc.toNat : Int) + d.toInt) t))

/-- BSR, JSR, JMP, RTS, RTR and NOP (R322, R325 to R328, R331). -/
def Obligations.CallsJumpsAndReturns : Prop :=
  ∀ s : State,
    (∀ d : BranchDisp, ∃ t, exec (.bsr d) s = .next t ∧ Quiet s t ∧ KeepsFlags s t
      ∧ PushesLong (addressAfter d.words s) s t ∧ GoesTo (2 * (s.pc.toNat : Int) + dispInt d) t)
    ∧ (∀ ea : EA, (Instr.jsr ea).wf s.config.band = true → ∃ a t, locate ea .l s = .mem a
      ∧ exec (.jsr ea) s = .next t ∧ Quiet s t ∧ KeepsFlags s t
      ∧ PushesLong (addressAfter (ea.words .l) s) s t ∧ GoesTo a.toNat t)
    ∧ (∀ ea : EA, (Instr.jmp ea).wf s.config.band = true → ∃ a t, locate ea .l s = .mem a
      ∧ exec (.jmp ea) s = .next t ∧ Quiet s t ∧ KeepsRest s t ∧ GoesTo a.toNat t)
    ∧ (∃ t, exec .rts s = .next t ∧ Quiet s t ∧ KeepsFlags s t ∧ KeepsD s t ∧ KeepsMemory s t
      ∧ (∀ q, t.areg q = if q = 7 then s.areg 7 + 4#32 else s.areg q)
      ∧ GoesTo (s.memRead .l (s.areg 7)).toNat t)
    ∧ (∃ t, exec .rtr s = .next t ∧ Quiet s t ∧ KeepsD s t ∧ KeepsMemory s t
      ∧ (∀ q, t.areg q = if q = 7 then s.areg 7 + 6#32 else s.areg q)
      ∧ CcrIs (s.memRead .w (s.areg 7)).toNat t.sr.ccr
      ∧ GoesTo (s.memRead .l (s.areg 7 + 2#32)).toNat t)
    ∧ exec .nop s = .next s

/-! Operands and data movement. -/

/-- The address of a memory operand in each mode, modulo `2^32` (R163 to R171, R175): `pc` stands at the
operand's first extension word. -/
def Obligations.AddressingModesLocateTheirOperand : Prop :=
  ∀ (s : State) (sz : Size) (r : RegNo),
    locate (.ind r) sz s = .mem (s.areg r)
    ∧ locate (.postInc r) sz s = .mem (s.areg r)
    ∧ locate (.preDec r) sz s = .mem (s.areg r - modeStep sz r)
    ∧ (∀ d : Word, locate (.disp r d) sz s = .mem (s.areg r + BitVec.ofInt 32 d.toInt))
    ∧ (∀ x : Brief, locate (.index r x) sz s = .mem (s.areg r + BitVec.ofInt 32 (x.disp.toInt
        + (if x.isLong = true then ((if x.isAddr = true then s.areg x.xreg else s.dreg x.xreg).toNat : Int)
           else sval .w (if x.isAddr = true then s.areg x.xreg else s.dreg x.xreg)))))
    ∧ (∀ a : Word, locate (.absW a) sz s = .mem (BitVec.ofInt 32 a.toInt))
    ∧ (∀ a : Long, locate (.absL a) sz s = .mem a)
    ∧ (∀ d : Word, locate (.pcDisp d) sz s = .mem (BitVec.ofInt 32 (2 * s.pc.toNat + d.toInt)))
    ∧ (∀ x : Brief, locate (.pcIndex x) sz s = .mem (BitVec.ofInt 32 (2 * s.pc.toNat + x.disp.toInt
        + (if x.isLong = true then ((if x.isAddr = true then s.areg x.xreg else s.dreg x.xreg).toNat : Int)
           else sval .w (if x.isAddr = true then s.areg x.xreg else s.dreg x.xreg)))))

/-- MOVE copies its source, read before its destination is resolved, in every pair of modes (R211, R180). -/
def Obligations.MoveCopiesItsSource : Prop :=
  ∀ (sz : Size) (src dst : EA) (s : State), (move sz src dst).wf s.config.band = true →
    ∃ s1 t, AfterSource src sz s s1 ∧ exec (move sz src dst) s = .next t
      ∧ Ordinary (move sz src dst) s t ∧ Writes dst sz (operand src sz s).toNat s1 t
      ∧ LogicFlags sz (operand src sz s).toNat s.sr.ccr t.sr.ccr

/-- MOVEA, MOVEQ and LEA load a whole register: a word or a byte sign-extended, an address unread (R212,
R213, R218). -/
def Obligations.WholeRegisterLoads : Prop :=
  ∀ s : State,
    (∀ (long : Bool) (src : EA) (an : RegNo), ∃ t, exec (movea long src an) s = .next t
      ∧ Ordinary (movea long src an) s t ∧ KeepsFlags s t ∧ KeepsD s t ∧ KeepsMemory s t
      ∧ (t.areg an).toInt = sval (wl long) (operand src (wl long) s)
      ∧ ∀ q, q ≠ an → t.areg q = movedA src (wl long) s q)
    ∧ (∀ (dn : RegNo) (data : Byte), ∃ t, exec (.moveq dn data) s = .next t
      ∧ Ordinary (.moveq dn data) s t ∧ KeepsA s t ∧ KeepsMemory s t
      ∧ (t.dreg dn).toInt = data.toInt ∧ (∀ q, q ≠ dn → t.dreg q = s.dreg q)
      ∧ LogicFlags .l (t.dreg dn).toNat s.sr.ccr t.sr.ccr)
    ∧ (∀ (ea : EA) (an : RegNo), (Instr.lea ea an).wf s.config.band = true → ∃ a t,
      locate ea .l s = .mem a ∧ exec (.lea ea an) s = .next t ∧ Ordinary (.lea ea an) s t
      ∧ KeepsFlags s t ∧ KeepsD s t ∧ KeepsMemory s t
      ∧ ∀ q, t.areg q = if q = an then a else s.areg q)

/-- PEA, LINK and UNLK, `A7` as the frame register included (R219, R222, R223). -/
def Obligations.StackFramesArePushedAndRemoved : Prop :=
  ∀ s : State,
    (∀ ea : EA, (Instr.pea ea).wf s.config.band = true → ∃ a t, locate ea .l s = .mem a
      ∧ exec (.pea ea) s = .next t ∧ Ordinary (.pea ea) s t ∧ KeepsFlags s t ∧ PushesLong a s t)
    ∧ (∀ (an : RegNo) (d : Word), ∃ t, exec (.link an d) s = .next t ∧ Ordinary (.link an d) s t
      ∧ KeepsFlags s t ∧ KeepsD s t
      ∧ Stores .l (s.areg 7 - 4#32) (if an = 7 then s.areg 7 - 4#32 else s.areg an).toNat s t
      ∧ (∀ q, t.areg q = if q = 7 then s.areg 7 - 4#32 + BitVec.ofInt 32 d.toInt
          else if q = an then s.areg 7 - 4#32 else s.areg q))
    ∧ (∀ an : RegNo, ∃ t, exec (.unlk an) s = .next t ∧ Ordinary (.unlk an) s t ∧ KeepsFlags s t
      ∧ KeepsD s t ∧ KeepsMemory s t
      ∧ (∀ q, t.areg q = if q = an then s.memRead .l (s.areg an)
          else if q = 7 then s.areg an + 4#32 else s.areg q))

/-- EXG, SWAP and EXT (R220, R221, R225). -/
def Obligations.RegistersAreExchangedAndExtended : Prop :=
  ∀ s : State,
    (∀ (i : Instr) (x y : XRegNo),
      ((∃ rx ry : RegNo, i = .exgDD rx ry ∧ x = xData rx ∧ y = xData ry)
        ∨ (∃ rx ry : RegNo, i = .exgAA rx ry ∧ x = xAddr rx ∧ y = xAddr ry)
        ∨ (∃ rx ry : RegNo, i = .exgDA rx ry ∧ x = xData rx ∧ y = xAddr ry)) →
      ∃ t, exec i s = .next t ∧ Ordinary i s t ∧ KeepsFlags s t ∧ KeepsMemory s t
        ∧ ∀ q, t.xreg q = if q = x then s.xreg y else if q = y then s.xreg x else s.xreg q)
    ∧ (∀ dn : RegNo, ∃ t, exec (.swap dn) s = .next t ∧ Ordinary (.swap dn) s t ∧ KeepsA s t
      ∧ KeepsMemory s t ∧ (t.dreg dn).toNat = (s.dreg dn).toNat % 65536 * 65536 + (s.dreg dn).toNat / 65536
      ∧ (∀ q, q ≠ dn → t.dreg q = s.dreg q) ∧ LogicFlags .l (t.dreg dn).toNat s.sr.ccr t.sr.ccr)
    ∧ (∀ dn : RegNo, ∃ t, exec (.extW dn) s = .next t ∧ Ordinary (.extW dn) s t ∧ KeepsA s t
      ∧ KeepsMemory s t ∧ sval .w (t.dreg dn) = sval .b (s.dreg dn)
      ∧ (t.dreg dn).toNat / 65536 = (s.dreg dn).toNat / 65536
      ∧ (∀ q, q ≠ dn → t.dreg q = s.dreg q) ∧ LogicFlags .w (t.dreg dn).toNat s.sr.ccr t.sr.ccr)
    ∧ (∀ dn : RegNo, ∃ t, exec (.extL dn) s = .next t ∧ Ordinary (.extL dn) s t ∧ KeepsA s t
      ∧ KeepsMemory s t ∧ sval .l (t.dreg dn) = sval .w (s.dreg dn)
      ∧ (∀ q, q ≠ dn → t.dreg q = s.dreg q) ∧ LogicFlags .l (t.dreg dn).toNat s.sr.ccr t.sr.ccr)

/-- CLR, NOT, TAS and Scc write their operand through one resolution; Scc changes no flag (R224, R290, R309,
R310). -/
def Obligations.OneOperandInstructionsWriteTheirResult : Prop :=
  ∀ s : State,
    (∀ (sz : Size) (ea : EA), (clr sz ea).wf s.config.band = true → ∃ t, exec (clr sz ea) s = .next t
      ∧ Ordinary (clr sz ea) s t ∧ Writes ea sz 0 s t ∧ LogicFlags sz 0 s.sr.ccr t.sr.ccr)
    ∧ (∀ (sz : Size) (ea : EA), (notI sz ea).wf s.config.band = true → ∃ t,
      exec (notI sz ea) s = .next t ∧ Ordinary (notI sz ea) s t
      ∧ Writes ea sz (2 ^ sizeBits sz - 1 - uval sz (operand ea sz s)) s t
      ∧ LogicFlags sz (2 ^ sizeBits sz - 1 - uval sz (operand ea sz s)) s.sr.ccr t.sr.ccr)
    ∧ (∀ ea : EA, (Instr.tas ea).wf s.config.band = true → ∃ t, exec (.tas ea) s = .next t
      ∧ Ordinary (.tas ea) s t ∧ Writes ea .b (uval .b (operand ea .b s) ||| 128) s t
      ∧ LogicFlags .b (uval .b (operand ea .b s)) s.sr.ccr t.sr.ccr)
    ∧ (∀ (k : Cond) (ea : EA), (scc k ea).wf s.config.band = true → ∃ t r,
      exec (scc k ea) s = .next t ∧ Ordinary (scc k ea) s t ∧ KeepsFlags s t ∧ Writes ea .b r s t
      ∧ (CondTrue k s.sr.ccr → r = 255) ∧ (¬ CondTrue k s.sr.ccr → r = 0))

/-- MOVEM to memory stores the selected registers as they were at the start, at ascending addresses, or at
descending ones for pre-decrement, whose register then holds the last address (R214, R216). -/
def Obligations.MovemStoresTheSelectedRegisters : Prop :=
  ∀ (long : Bool) (mask : Word) (s : State),
    (∀ r : RegNo, ∃ t, exec (movemStoreI long mask (.preDec r)) s = .next t
      ∧ Ordinary (movemStoreI long mask (.preDec r)) s t ∧ KeepsFlags s t ∧ KeepsD s t
      ∧ (∀ q, t.areg q = if q = r then s.areg r - BitVec.ofNat 32 (sizeBytes (wl long) * countSelected mask)
          else s.areg q)
      ∧ t.mem = (storeAll (wl long) (descending (wl long) mask (s.areg r) s) s).mem
      ∧ t.events = (storeAll (wl long) (descending (wl long) mask (s.areg r) s) s).events
      ∧ KeepsOutside (wl long) (descending (wl long) mask (s.areg r) s) s t)
    ∧ (∀ ea : EA, (movemStoreI long mask ea).wf s.config.band = true → (∀ r, ea ≠ .preDec r) → ∃ a t,
      locate ea (wl long) (s.consume 1) = .mem a ∧ exec (movemStoreI long mask ea) s = .next t
      ∧ Ordinary (movemStoreI long mask ea) s t ∧ KeepsFlags s t ∧ KeepsD s t ∧ KeepsA s t
      ∧ t.mem = (storeAll (wl long) (ascending (wl long) mask a s) s).mem
      ∧ t.events = (storeAll (wl long) (ascending (wl long) mask a s) s).events
      ∧ KeepsOutside (wl long) (ascending (wl long) mask a s) s t)

/-- MOVEM from memory loads whole registers, a word sign-extended, from consecutive operands; the register of
post-increment ends past the last one, even where it is in the list (R215, R216). -/
def Obligations.MovemLoadsTheSelectedRegisters : Prop :=
  ∀ (long : Bool) (mask : Word) (s : State),
    (∀ r : RegNo, ∃ t, exec (movemLoadI long mask (.postInc r)) s = .next t
      ∧ Ordinary (movemLoadI long mask (.postInc r)) s t ∧ KeepsFlags s t ∧ KeepsMemory s t
      ∧ t.areg r = s.areg r + BitVec.ofNat 32 (sizeBytes (wl long) * countSelected mask)
      ∧ ∀ q, q ≠ xAddr r → t.xreg q =
          if mask.getLsbD q.val = true then
            BitVec.ofInt 32 (sval (wl long) (s.memRead (wl long)
              (s.areg r + BitVec.ofNat 32 (sizeBytes (wl long) * countBelow mask q))))
          else s.xreg q)
    ∧ (∀ ea : EA, (movemLoadI long mask ea).wf s.config.band = true → (∀ r, ea ≠ .postInc r) → ∃ a t,
      locate ea (wl long) (s.consume 1) = .mem a ∧ exec (movemLoadI long mask ea) s = .next t
      ∧ Ordinary (movemLoadI long mask ea) s t ∧ KeepsFlags s t ∧ KeepsMemory s t
      ∧ ∀ q, t.xreg q =
          if mask.getLsbD q.val = true then
            BitVec.ofInt 32 (sval (wl long) (s.memRead (wl long)
              (a + BitVec.ofNat 32 (sizeBytes (wl long) * countBelow mask q))))
          else s.xreg q)

/-- MOVEP moves the bytes of a register to or from every other byte of memory, the most significant first,
and changes no flag (R217). -/
def Obligations.MovepMovesAlternateBytes : Prop :=
  ∀ (long : Bool) (dn an : RegNo) (d : Word) (s : State) (a : Long),
    a = s.areg an + BitVec.ofInt 32 d.toInt →
    (∃ t, exec (movepLoadI long dn an d) s = .next t ∧ Ordinary (movepLoadI long dn an d) s t
      ∧ KeepsFlags s t ∧ KeepsA s t ∧ KeepsMemory s t
      ∧ WritesD (wl long) dn (if long = true then
            (s.memRead .b a).toNat * 2 ^ 24 + (s.memRead .b (a + 2#32)).toNat * 2 ^ 16
              + (s.memRead .b (a + 4#32)).toNat * 2 ^ 8 + (s.memRead .b (a + 6#32)).toNat
          else (s.memRead .b a).toNat * 2 ^ 8 + (s.memRead .b (a + 2#32)).toNat) s t)
    ∧ (∃ t l, exec (movepStoreI long dn an d) s = .next t ∧ Ordinary (movepStoreI long dn an d) s t
      ∧ KeepsFlags s t ∧ KeepsD s t ∧ KeepsA s t
      ∧ l = (List.range (sizeBytes (wl long))).map (fun k => (a + BitVec.ofNat 32 (2 * k),
          BitVec.ofNat 32 ((s.dreg dn).toNat / 256 ^ (sizeBytes (wl long) - 1 - k) % 256)))
      ∧ t.mem = (storeAll .b l s).mem ∧ t.events = (storeAll .b l s).events ∧ KeepsOutside .b l s t)

/-! Integer arithmetic. -/

/-- ADD and SUB into a data register, at every size and from every mode (R241, R246, R191, R192). -/
def Obligations.AddAndSubIntoARegister : Prop :=
  ∀ (sz : Size) (ea : EA) (dn : RegNo) (s : State),
    (∃ t, exec (addEaDn sz ea dn) s = .next t ∧ Ordinary (addEaDn sz ea dn) s t
      ∧ (∀ q, t.areg q = movedA ea sz s q) ∧ KeepsMemory s t
      ∧ WritesD sz dn (sumOf sz (operand ea sz s) (s.dreg dn) false) s t
      ∧ AddFlags sz (operand ea sz s) (s.dreg dn) t.sr.ccr)
    ∧ (∃ t, exec (subEaDn sz ea dn) s = .next t ∧ Ordinary (subEaDn sz ea dn) s t
      ∧ (∀ q, t.areg q = movedA ea sz s q) ∧ KeepsMemory s t
      ∧ WritesD sz dn (differenceOf sz (operand ea sz s) (s.dreg dn) false) s t
      ∧ SubFlags sz (operand ea sz s) (s.dreg dn) t.sr.ccr)

/-- ADD and SUB of a register into memory, ADDI and SUBI, ADDQ and SUBQ into any operand but an address
register: one resolution, the result written through it, all five flags (R241, R243, R244, R246, R248,
R249). -/
def Obligations.AddAndSubIntoAnOperand : Prop :=
  ∀ (sz : Size) (ea : EA) (s : State),
    (∀ dn : RegNo, (addDnEa sz dn ea).wf s.config.band = true → ∃ t,
      exec (addDnEa sz dn ea) s = .next t ∧ Ordinary (addDnEa sz dn ea) s t
      ∧ Writes ea sz (sumOf sz (s.dreg dn) (operand ea sz s) false) s t
      ∧ AddFlags sz (s.dreg dn) (operand ea sz s) t.sr.ccr)
    ∧ (∀ dn : RegNo, (subDnEa sz dn ea).wf s.config.band = true → ∃ t,
      exec (subDnEa sz dn ea) s = .next t ∧ Ordinary (subDnEa sz dn ea) s t
      ∧ Writes ea sz (differenceOf sz (s.dreg dn) (operand ea sz s) false) s t
      ∧ SubFlags sz (s.dreg dn) (operand ea sz s) t.sr.ccr)
    ∧ (∀ v : Long, (addi sz v ea).wf s.config.band = true → ∃ t,
      exec (addi sz v ea) s = .next t ∧ Ordinary (addi sz v ea) s t
      ∧ Writes ea sz (sumOf sz v (operand ea sz (s.consume (immediateWords sz))) false)
          (s.consume (immediateWords sz)) t
      ∧ AddFlags sz v (operand ea sz (s.consume (immediateWords sz))) t.sr.ccr)
    ∧ (∀ v : Long, (subi sz v ea).wf s.config.band = true → ∃ t,
      exec (subi sz v ea) s = .next t ∧ Ordinary (subi sz v ea) s t
      ∧ Writes ea sz (differenceOf sz v (operand ea sz (s.consume (immediateWords sz))) false)
          (s.consume (immediateWords sz)) t
      ∧ SubFlags sz v (operand ea sz (s.consume (immediateWords sz))) t.sr.ccr)
    ∧ (∀ q : BitVec 3, (addq sz q ea).wf s.config.band = true → ea.isAn = false → ∃ t,
      exec (addq sz q ea) s = .next t ∧ Ordinary (addq sz q ea) s t
      ∧ Writes ea sz (sumOf sz (BitVec.ofNat 32 (quickNat q)) (operand ea sz s) false) s t
      ∧ AddFlags sz (BitVec.ofNat 32 (quickNat q)) (operand ea sz s) t.sr.ccr)
    ∧ (∀ q : BitVec 3, (subq sz q ea).wf s.config.band = true → ea.isAn = false → ∃ t,
      exec (subq sz q ea) s = .next t ∧ Ordinary (subq sz q ea) s t
      ∧ Writes ea sz (differenceOf sz (BitVec.ofNat 32 (quickNat q)) (operand ea sz s) false) s t
      ∧ SubFlags sz (BitVec.ofNat 32 (quickNat q)) (operand ea sz s) t.sr.ccr)

/-- ADDA, SUBA, and ADDQ and SUBQ to an address register work on all 32 bits, a word source sign-extended,
and change no flag (R242, R244, R247, R249). -/
def Obligations.AddressArithmeticKeepsTheFlags : Prop :=
  ∀ (long : Bool) (an : RegNo) (s : State),
    (∀ ea : EA, ∃ t, exec (adda long ea an) s = .next t ∧ Ordinary (adda long ea an) s t
      ∧ KeepsFlags s t ∧ KeepsD s t ∧ KeepsMemory s t
      ∧ t.areg an = movedA ea (wl long) s an + BitVec.ofInt 32 (sval (wl long) (operand ea (wl long) s))
      ∧ ∀ q, q ≠ an → t.areg q = movedA ea (wl long) s q)
    ∧ (∀ ea : EA, ∃ t, exec (suba long ea an) s = .next t ∧ Ordinary (suba long ea an) s t
      ∧ KeepsFlags s t ∧ KeepsD s t ∧ KeepsMemory s t
      ∧ t.areg an = movedA ea (wl long) s an - BitVec.ofInt 32 (sval (wl long) (operand ea (wl long) s))
      ∧ ∀ q, q ≠ an → t.areg q = movedA ea (wl long) s q)
    ∧ (∀ q : BitVec 3, ∃ t, exec (addqA long q an) s = .next t ∧ Ordinary (addqA long q an) s t
      ∧ KeepsFlags s t ∧ KeepsD s t ∧ KeepsMemory s t
      ∧ ∀ k, t.areg k = if k = an then s.areg an + BitVec.ofNat 32 (quickNat q) else s.areg k)
    ∧ (∀ q : BitVec 3, ∃ t, exec (subqA long q an) s = .next t ∧ Ordinary (subqA long q an) s t
      ∧ KeepsFlags s t ∧ KeepsD s t ∧ KeepsMemory s t
      ∧ ∀ k, t.areg k = if k = an then s.areg an - BitVec.ofNat 32 (quickNat q) else s.areg k)

/-- CMP, CMPA, CMPI, CMPM and TST write nothing but flags, and keep `X` (R251 to R254, R257, R193). -/
def Obligations.ComparesWriteOnlyFlags : Prop :=
  ∀ s : State,
    (∀ (sz : Size) (ea : EA) (dn : RegNo), ∃ t, exec (cmp sz ea dn) s = .next t
      ∧ Ordinary (cmp sz ea dn) s t ∧ OnlyFlags ea sz s t
      ∧ CompareFlags sz (operand ea sz s) (s.dreg dn) s.sr.ccr t.sr.ccr)
    ∧ (∀ (long : Bool) (ea : EA) (an : RegNo), ∃ t, exec (cmpa long ea an) s = .next t
      ∧ Ordinary (cmpa long ea an) s t ∧ OnlyFlags ea (wl long) s t
      ∧ CompareFlags .l (BitVec.ofInt 32 (sval (wl long) (operand ea (wl long) s)))
          (movedA ea (wl long) s an) s.sr.ccr t.sr.ccr)
    ∧ (∀ (sz : Size) (v : Long) (ea : EA), ∃ t, exec (cmpi sz v ea) s = .next t
      ∧ Ordinary (cmpi sz v ea) s t ∧ OnlyFlags ea sz s t
      ∧ CompareFlags sz v (operand ea sz (s.consume (immediateWords sz))) s.sr.ccr t.sr.ccr)
    ∧ (∀ (sz : Size) (ay ax : RegNo), ∃ s1 t, AfterSource (.postInc ay) sz s s1
      ∧ exec (cmpm sz ay ax) s = .next t ∧ Ordinary (cmpm sz ay ax) s t
      ∧ OnlyFlags (.postInc ax) sz s1 t
      ∧ CompareFlags sz (operand (.postInc ay) sz s) (operand (.postInc ax) sz s1) s.sr.ccr t.sr.ccr)
    ∧ (∀ (sz : Size) (ea : EA), ∃ t, exec (tst sz ea) s = .next t ∧ Ordinary (tst sz ea) s t
      ∧ OnlyFlags ea sz s t ∧ LogicFlags sz (operand ea sz s).toNat s.sr.ccr t.sr.ccr)

/-- NEG subtracts its operand from zero, NEGX the extend bit too; the `Z` of NEGX is only ever cleared (R255,
R256, R194, R196). -/
def Obligations.NegAndNegxSubtractFromZero : Prop :=
  ∀ (sz : Size) (ea : EA) (s : State),
    ((neg sz ea).wf s.config.band = true → ∃ t, exec (neg sz ea) s = .next t ∧ Ordinary (neg sz ea) s t
      ∧ Writes ea sz (differenceOf sz (operand ea sz s) 0#32 false) s t
      ∧ SubFlags sz (operand ea sz s) 0#32 t.sr.ccr)
    ∧ ((negx sz ea).wf s.config.band = true → ∃ t, exec (negx sz ea) s = .next t
      ∧ Ordinary (negx sz ea) s t
      ∧ Writes ea sz (differenceOf sz (operand ea sz s) 0#32 s.sr.ccr.x) s t
      ∧ BorrowFlags sz (operand ea sz s) 0#32 s.sr.ccr.x t.sr.ccr ∧ t.sr.ccr.x = t.sr.ccr.c
      ∧ (t.sr.ccr.z = true ↔ s.sr.ccr.z = true
          ∧ ZeroAt sz (differenceOf sz (operand ea sz s) 0#32 s.sr.ccr.x)))

/-- ADDX and SUBX add and subtract with the extend bit, in the register form and in the memory form, source
first; `Z` is only ever cleared (R245, R250, R194). -/
def Obligations.AddxAndSubxCarryTheExtendBit : Prop :=
  ∀ (sz : Size) (form : RxForm) (ry rx : RegNo) (s : State), ∃ s1,
    AfterSource (pairEA form ry) sz s s1
    ∧ (∃ t, exec (addx sz form ry rx) s = .next t ∧ Ordinary (addx sz form ry rx) s t
      ∧ Writes (pairEA form rx) sz (sumOf sz (operand (pairEA form ry) sz s)
          (operand (pairEA form rx) sz s1) s.sr.ccr.x) s1 t
      ∧ CarryFlags sz (operand (pairEA form ry) sz s) (operand (pairEA form rx) sz s1) s.sr.ccr.x t.sr.ccr
      ∧ (t.sr.ccr.z = true ↔ s.sr.ccr.z = true ∧ ZeroAt sz (sumOf sz (operand (pairEA form ry) sz s)
          (operand (pairEA form rx) sz s1) s.sr.ccr.x)))
    ∧ (∃ t, exec (subx sz form ry rx) s = .next t ∧ Ordinary (subx sz form ry rx) s t
      ∧ Writes (pairEA form rx) sz (differenceOf sz (operand (pairEA form ry) sz s)
          (operand (pairEA form rx) sz s1) s.sr.ccr.x) s1 t
      ∧ BorrowFlags sz (operand (pairEA form ry) sz s) (operand (pairEA form rx) sz s1) s.sr.ccr.x t.sr.ccr
      ∧ t.sr.ccr.x = t.sr.ccr.c
      ∧ (t.sr.ccr.z = true ↔ s.sr.ccr.z = true ∧ ZeroAt sz (differenceOf sz
          (operand (pairEA form ry) sz s) (operand (pairEA form rx) sz s1) s.sr.ccr.x)))

/-- MULU and MULS give the exact 32-bit product of two words (R258, R259). -/
def Obligations.MultiplyIsExact : Prop :=
  ∀ (ea : EA) (dn : RegNo) (s : State), ea.wf .w = true →
    (∃ t, exec (.mulu ea dn) s = .next t ∧ Ordinary (.mulu ea dn) s t
      ∧ (∀ q, t.areg q = movedA ea .w s q) ∧ KeepsMemory s t ∧ (∀ q, q ≠ dn → t.dreg q = s.dreg q)
      ∧ (t.dreg dn).toNat = uval .w (operand ea .w s) * uval .w (s.dreg dn)
      ∧ LogicFlags .l (t.dreg dn).toNat s.sr.ccr t.sr.ccr)
    ∧ (∃ t, exec (.muls ea dn) s = .next t ∧ Ordinary (.muls ea dn) s t
      ∧ (∀ q, t.areg q = movedA ea .w s q) ∧ KeepsMemory s t ∧ (∀ q, q ≠ dn → t.dreg q = s.dreg q)
      ∧ (t.dreg dn).toInt = sval .w (operand ea .w s) * sval .w (s.dreg dn)
      ∧ LogicFlags .l (t.dreg dn).toNat s.sr.ccr t.sr.ccr)

/-- DIVU and DIVS by a divisor that is not zero: quotient low and remainder high where the quotient fits,
toward zero for DIVS; else `V` set, the destination unchanged, `N` and `Z` free (R260, R261). -/
def Obligations.DivideFitsOrOverflows : Prop :=
  ∀ (ea : EA) (dn : RegNo) (s : State), ea.wf .w = true → uval .w (operand ea .w s) ≠ 0 →
    (∃ t, exec (.divu ea dn) s = .next t ∧ Advances (.divu ea dn) s t
      ∧ (∀ q, t.areg q = movedA ea .w s q) ∧ KeepsMemory s t ∧ (∀ q, q ≠ dn → t.dreg q = s.dreg q)
      ∧ t.sr.ccr.x = s.sr.ccr.x ∧ t.sr.ccr.c = false
      ∧ ((s.dreg dn).toNat / uval .w (operand ea .w s) ≤ 65535 →
          (t.dreg dn).toNat = (s.dreg dn).toNat % uval .w (operand ea .w s) * 65536
            + (s.dreg dn).toNat / uval .w (operand ea .w s)
          ∧ t.sr.ccr.v = false ∧ t.draws = s.draws
          ∧ (t.sr.ccr.n = true ↔ 32768 ≤ (s.dreg dn).toNat / uval .w (operand ea .w s))
          ∧ (t.sr.ccr.z = true ↔ (s.dreg dn).toNat / uval .w (operand ea .w s) = 0))
      ∧ (65535 < (s.dreg dn).toNat / uval .w (operand ea .w s) →
          t.dreg dn = s.dreg dn ∧ t.sr.ccr.v = true ∧ t.draws = s.draws + 2))
    ∧ (∃ t, exec (.divs ea dn) s = .next t ∧ Advances (.divs ea dn) s t
      ∧ (∀ q, t.areg q = movedA ea .w s q) ∧ KeepsMemory s t ∧ (∀ q, q ≠ dn → t.dreg q = s.dreg q)
      ∧ t.sr.ccr.x = s.sr.ccr.x ∧ t.sr.ccr.c = false
      ∧ (-32768 ≤ (s.dreg dn).toInt.tdiv (sval .w (operand ea .w s)) →
          (s.dreg dn).toInt.tdiv (sval .w (operand ea .w s)) ≤ 32767 →
          sval .w (t.dreg dn) = (s.dreg dn).toInt.tdiv (sval .w (operand ea .w s))
          ∧ ((t.dreg dn).toNat : Int) / 65536 = (s.dreg dn).toInt.tmod (sval .w (operand ea .w s)) % 65536
          ∧ t.sr.ccr.v = false ∧ t.draws = s.draws
          ∧ (t.sr.ccr.n = true ↔ (s.dreg dn).toInt.tdiv (sval .w (operand ea .w s)) < 0)
          ∧ (t.sr.ccr.z = true ↔ (s.dreg dn).toInt.tdiv (sval .w (operand ea .w s)) = 0))
      ∧ (((s.dreg dn).toInt.tdiv (sval .w (operand ea .w s)) < -32768
            ∨ 32767 < (s.dreg dn).toInt.tdiv (sval .w (operand ea .w s))) →
          t.dreg dn = s.dreg dn ∧ t.sr.ccr.v = true ∧ t.draws = s.draws + 2))

/-- ABCD, SBCD and NBCD complete on every two bytes, those with a digit above 9 too, and write the byte of
R265's algorithm and its carry; `Z` is only ever cleared, `N` and `V` are free values (R262 to R265; that the
algorithm fixes the result on digits above 9 is the spec's decision D17, log 24). -/
def Obligations.DecimalInstructionsWriteTheirByte : Prop :=
  ∀ s : State,
    (∀ (form : RxForm) (ry rx : RegNo), ∃ s1, AfterSource (pairEA form ry) .b s s1
      ∧ (∃ t p, BcdAdds (operand (pairEA form ry) .b s).toNat (operand (pairEA form rx) .b s1).toNat
          s.sr.ccr.x p
        ∧ exec (.abcd form ry rx) s = .next t ∧ Advances (.abcd form ry rx) s t ∧ t.draws = s.draws + 2
        ∧ Writes (pairEA form rx) .b p.1 s1 t ∧ DecimalFlags p s.sr.ccr t.sr.ccr)
      ∧ (∃ t p, BcdSubs (operand (pairEA form ry) .b s).toNat (operand (pairEA form rx) .b s1).toNat
          s.sr.ccr.x p
        ∧ exec (.sbcd form ry rx) s = .next t ∧ Advances (.sbcd form ry rx) s t ∧ t.draws = s.draws + 2
        ∧ Writes (pairEA form rx) .b p.1 s1 t ∧ DecimalFlags p s.sr.ccr t.sr.ccr))
    ∧ (∀ ea : EA, (Instr.nbcd ea).wf s.config.band = true → ∃ t p,
      BcdSubs (operand ea .b s).toNat 0 s.sr.ccr.x p ∧ exec (.nbcd ea) s = .next t
      ∧ Advances (.nbcd ea) s t ∧ t.draws = s.draws + 2 ∧ Writes ea .b p.1 s t
      ∧ DecimalFlags p s.sr.ccr t.sr.ccr)

/-- On bytes of two decimal digits the decimal operations are addition and subtraction modulo 100, with the
decimal carry and borrow, and give two decimal digits again (R265). -/
def Obligations.DecimalOperationsAreDecimal : Prop :=
  ∀ (a b : Nat) (x : Bool), ValidBcd a → ValidBcd b →
    (ValidBcd (bcdAdd a b x).1
      ∧ bcdValue (bcdAdd a b x).1 = (bcdValue b + bcdValue a + x.toNat) % 100
      ∧ ((bcdAdd a b x).2 = true ↔ 100 ≤ bcdValue b + bcdValue a + x.toNat))
    ∧ (ValidBcd (bcdSub a b x).1
      ∧ (bcdValue (bcdSub a b x).1 : Int) = ((bcdValue b : Int) - bcdValue a - x.toNat) % 100
      ∧ ((bcdSub a b x).2 = true ↔ bcdValue b < bcdValue a + x.toNat))

/-- The tests of R205 after a compare of `s` with `d` read the order of the two numbers, unsigned and signed
(R206). -/
def Obligations.ConditionsAfterACompareReadTheOrder : Prop :=
  ∀ (sz : Size) (s d : Long) (old f : Flags),
    f = flagsCmp old sz (trunc sz s) (trunc sz d) (trunc sz (trunc sz d - trunc sz s)) →
    (Cond.holds .eq f = true ↔ uval sz d = uval sz s) ∧ (Cond.holds .ne f = true ↔ uval sz d ≠ uval sz s)
    ∧ (Cond.holds .hi f = true ↔ uval sz s < uval sz d) ∧ (Cond.holds .cc f = true ↔ uval sz s ≤ uval sz d)
    ∧ (Cond.holds .cs f = true ↔ uval sz d < uval sz s) ∧ (Cond.holds .ls f = true ↔ uval sz d ≤ uval sz s)
    ∧ (Cond.holds .gt f = true ↔ sval sz s < sval sz d) ∧ (Cond.holds .ge f = true ↔ sval sz s ≤ sval sz d)
    ∧ (Cond.holds .lt f = true ↔ sval sz d < sval sz s) ∧ (Cond.holds .le f = true ↔ sval sz d ≤ sval sz s)

/-! Logic, shifts and bits. -/

/-- AND, OR and EOR in all their forms (R281, R282, R284, R285, R287, R288). -/
def Obligations.LogicInstructionsWriteTheirResult : Prop :=
  ∀ (op : LogicOp) (sz : Size) (ea : EA) (s : State),
    (∀ dn : RegNo, op ≠ .eor → (match op with | .and => andEaDn sz ea dn | _ => orEaDn sz ea dn).wf
        s.config.band = true →
      ∃ t, exec (match op with | .and => andEaDn sz ea dn | _ => orEaDn sz ea dn) s = .next t
      ∧ Ordinary (match op with | .and => andEaDn sz ea dn | _ => orEaDn sz ea dn) s t
      ∧ (∀ q, t.areg q = movedA ea sz s q) ∧ KeepsMemory s t
      ∧ WritesD sz dn (op.apply (uval sz (operand ea sz s)) (uval sz (s.dreg dn))) s t
      ∧ LogicFlags sz (op.apply (uval sz (operand ea sz s)) (uval sz (s.dreg dn))) s.sr.ccr t.sr.ccr)
    ∧ (∀ dn : RegNo, (match op with
          | .and => andDnEa sz dn ea | .or => orDnEa sz dn ea | .eor => eorDnEa sz dn ea).wf
        s.config.band = true →
      ∃ t, exec (match op with
          | .and => andDnEa sz dn ea | .or => orDnEa sz dn ea | .eor => eorDnEa sz dn ea) s = .next t
      ∧ Ordinary (match op with
          | .and => andDnEa sz dn ea | .or => orDnEa sz dn ea | .eor => eorDnEa sz dn ea) s t
      ∧ Writes ea sz (op.apply (uval sz (operand ea sz s)) (uval sz (s.dreg dn))) s t
      ∧ LogicFlags sz (op.apply (uval sz (operand ea sz s)) (uval sz (s.dreg dn))) s.sr.ccr t.sr.ccr)
    ∧ (∀ v : Long, (match op with | .and => andi sz v ea | .or => ori sz v ea | .eor => eori sz v ea).wf
        s.config.band = true →
      ∃ t, exec (match op with | .and => andi sz v ea | .or => ori sz v ea | .eor => eori sz v ea) s = .next t
      ∧ Ordinary (match op with | .and => andi sz v ea | .or => ori sz v ea | .eor => eori sz v ea) s t
      ∧ Writes ea sz (op.apply (uval sz (operand ea sz (s.consume (immediateWords sz)))) (uval sz v))
          (s.consume (immediateWords sz)) t
      ∧ LogicFlags sz (op.apply (uval sz (operand ea sz (s.consume (immediateWords sz)))) (uval sz v))
          s.sr.ccr t.sr.ccr)

/-- The four shifts of a data register, by any count, in closed form: the step of R291 repeated is a
multiplication, a division with floor, or a bit test (R291 to R295). -/
def Obligations.RegisterShiftsInClosedForm : Prop :=
  ShiftsAs .asl ∧ ShiftsAs .asr ∧ ShiftsAs .lsl ∧ ShiftsAs .lsr

/-- The four rotates of a data register, by any count, in closed form (R291, R296 to R299). -/
def Obligations.RegisterRotatesInClosedForm : Prop :=
  ShiftsAs .rol ∧ ShiftsAs .ror ∧ ShiftsAs .roxl ∧ ShiftsAs .roxr

/-- The memory forms shift a word by one (R300). -/
def Obligations.MemoryShiftsMoveOneBit : Prop :=
  ∀ (op : ShiftOp) (ea : EA) (s : State), (shiftMemI op ea).wf s.config.band = true → ∃ t,
    exec (shiftMemI op ea) s = .next t ∧ Ordinary (shiftMemI op ea) s t
    ∧ Writes ea .w (shiftSpec op 16 (uval .w (operand ea .w s)) 1 s.sr.ccr.x).r s t
    ∧ ShiftFlagsAre 16 (shiftSpec op 16 (uval .w (operand ea .w s)) 1 s.sr.ccr.x) t.sr.ccr

/-- BTST, BCHG, BCLR and BSET test one bit into `Z` and change it: modulo 32 in a data register, modulo 8 in a
byte (R301 to R305). -/
def Obligations.BitInstructionsTestAndChangeOneBit : Prop :=
  ∀ (op : BitOp) (ea : EA) (s : State),
    (∀ dn : RegNo, (bitRegI op dn ea).wf s.config.band = true → ∃ t,
      exec (bitRegI op dn ea) s = .next t ∧ Ordinary (bitRegI op dn ea) s t
      ∧ BitDone op (s.dreg dn).toNat ea s t)
    ∧ (∀ b : Byte, (bitImmI op b ea).wf s.config.band = true → ∃ t,
      exec (bitImmI op b ea) s = .next t ∧ Ordinary (bitImmI op b ea) s t
      ∧ BitDone op b.toNat ea (s.consume 1) t)

/-! The host band and the float bridge. -/

/-- A word of the band: the sentinel only makes the outcome `Stop`; a word that is no bridge opcode calls the
collaborator once, keyed by its negative index, and performs what the collaborator answers, which is nothing
where the oracle has ended (R360 to R363). The index formula is the spec's decision D12. That the answer is a
list of actions taken from a list of lists, and nothing where that has ended, is the model's choice: R363 makes
the oracle a parameter (log 7). -/
def Obligations.HostTrapsStopOrCallTheHost : Prop :=
  ∀ s : State,
    exec (.hosttrap s.config.band.stop) s = .next { s with outcome := .stop }
    ∧ (∀ w : Word, w ≠ s.config.band.stop → (∀ op ∈ s.config.fpOps, op.opcode ≠ w) →
      exec (.hosttrap w) s = .next (hostActs (s.hostTraps.headD [])
        { s with
          hostTraps := s.hostTraps.tail
          events := s.events ++ [.hostTrap (-((w.toNat : Int) - s.config.band.base + 1))] }))
    ∧ (∀ acts : List HostAction, (hostActs acts s).config = s.config
      ∧ (hostActs acts s).irqSlots = s.irqSlots ∧ (hostActs acts s).hostInputs = s.hostInputs
      ∧ (hostActs acts s).hostTraps = s.hostTraps ∧ (hostActs acts s).draws = s.draws
      ∧ (hostActs acts s).stopped = s.stopped ∧ (hostActs acts s).outcome = s.outcome
      ∧ (s.traceEnabled = s.sr.t → (hostActs acts s).traceEnabled = (hostActs acts s).sr.t))

/-- A bridge operation that succeeds: the result is written where the variant says, the pointer moves there,
the caller's return address is popped and gone to; no other register but the clobbered ones changes, no flag,
no other byte (R396, R398, R401). -/
def Obligations.BridgeOperationSucceeds : Prop :=
  ∀ (w : Word) (op : FpOp) (x y : Double) (g : Word × Long) (s : State),
    w ≠ s.config.band.stop → bridgeOpOf s.config w = some op → s.config.fpPtrReg ≠ 7 →
    BridgeOperands op s x y → toGuest (fpCompute op x y) = some g →
    ∃ t, exec (.hosttrap w) s = .next t ∧ KeepsSystem s t ∧ KeepsFlags s t
      ∧ t.draws = s.draws + op.clobbers.length ∧ StoresFloat (bridgeTarget op s) g s t
      ∧ (∀ q, q ∉ op.clobbers → t.xreg q =
          if q = xAddr 7 then s.areg 7 + 4#32
          else if q = xAddr s.config.fpPtrReg then bridgeTarget op s else s.xreg q)
      ∧ GoesTo (s.memRead .l (s.areg 7)).toNat t

/-- The fallback: an operand outside the band or a result that is not representable leaves every register and
all memory as they were and goes to the slow entry (R402). -/
def Obligations.BridgeFallsBackWithNothingChanged : Prop :=
  ∀ (w : Word) (op : FpOp) (s : State),
    w ≠ s.config.band.stop → bridgeOpOf s.config w = some op →
    (s.readDouble s.floatPtr = none
      ∨ (fpBinary op.fn = true ∧ s.readDouble (s.floatPtr + 6#32) = none)
      ∨ (∃ x y, BridgeOperands op s x y ∧ toGuest (fpCompute op x y) = none)) →
    exec (.hosttrap w) s = .next { s with pc := op.slowEntry.extractLsb' 1 31 }

/-- A normalised guest float whose exponent is in the band, and not below `0x403`, goes to binary64 and back
unchanged; a zero mantissa gives zero (R386, R389, R390; the bound is the model's reading, log 17). -/
def Obligations.GuestFloatsRoundTrip : Prop :=
  (∀ (c : Config) (e : Word) (m : Long), c.fpExpLo ≤ e.toNat → e.toNat ≤ c.fpExpHi → 0x403 ≤ e.toNat →
    e.toNat ≤ 0xBFF → Normalised m → ∃ v, toDouble c e m = some v ∧ toGuest v = some (e, m))
  ∧ (∀ (c : Config) (e : Word), ∃ v, toDouble c e 0#32 = some v ∧ toGuest v = some (0#16, 0#32))

/-! Memory and the whole machine. -/

/-- What is written reads back, truncated to the size, where it is writable; a write beyond the writable
boundary changes nothing; a read beyond the readable boundary gives zero (R73). Its bound, what is in range, is
the spec's own inference from R64 to R71, and the comparisons are its decision D3. -/
def Obligations.MemoryReadsBackWhatWasWritten : Prop :=
  ∀ (s : State) (sz : Size) (a v : Long), s.config.totalRamSize ≤ s.config.totalMemSize →
    (accessAddr s.config sz a + sizeBytes sz ≤ s.config.totalRamSize →
      ((s.memWrite sz a v).memRead sz a).toNat = v.toNat % 2 ^ sizeBits sz)
    ∧ (s.config.totalRamSize < accessAddr s.config sz a + sizeBytes sz →
      (∀ x, (s.memWrite sz a v).mem.get x = s.mem.get x)
      ∧ (s.memWrite sz a v).memRead sz a = s.memRead sz a)
    ∧ (s.config.totalMemSize ≤ accessAddr s.config sz a → s.memRead sz a = 0#32)

/-- Two addresses that agree under the cutoff mask, and for a word or a long up to bit 0, are one address to
every accessor (R62, R65, R66, R70, R71). -/
def Obligations.AliasedAddressesAreOne : Prop :=
  ∀ (s : State) (sz : Size) (a b v : Long),
    (a &&& s.config.cutoffMask = b &&& s.config.cutoffMask
      ∨ (sz ≠ .b ∧ a ||| 1#32 = b ||| 1#32)) →
    s.memRead sz a = s.memRead sz b ∧ s.memWrite sz a v = s.memWrite sz b v

/-- The bulk path of the host: each byte lands at its own address below the readable boundary, ROM included,
what would land above it is dropped, no other byte changes, and the screen is told once, by region (R84). That
the range told is that of the unmasked address and is not empty is the model's choice, R84 being silent on the
mask (log 15); the bounds are the spec's decision D14. -/
def Obligations.BulkWriteFillsRomToo : Prop :=
  ∀ (s : State) (dest : Long) (bytes : List Byte),
    (∀ x, (∀ k, k < bytes.length → cutoff s.config (dest + BitVec.ofNat 32 k) ≠ x) →
      (s.bulkWrite dest bytes).mem.get x = s.mem.get x)
    ∧ (∀ k, k < bytes.length → cutoff s.config (dest + BitVec.ofNat 32 k) < s.config.totalMemSize →
      (∀ j, k < j → j < bytes.length →
        cutoff s.config (dest + BitVec.ofNat 32 j) ≠ cutoff s.config (dest + BitVec.ofNat 32 k)) →
      (s.bulkWrite dest bytes).mem.get (cutoff s.config (dest + BitVec.ofNat 32 k)) = bytes.getD k 0#8)
    ∧ (∀ x, s.config.totalMemSize ≤ x → (s.bulkWrite dest bytes).mem.get x = s.mem.get x)
    ∧ (s.bulkWrite dest bytes).events = s.events ++
        (if 0 < bytes.length ∧ s.config.screenStart < s.config.screenStop
            ∧ dest.toNat < s.config.screenStop ∧ s.config.screenStart < dest.toNat + bytes.length then
          [.regionChanged dest bytes.length] else [])

/-- The legacy registry: one handler per class, the lowest empty slot, -1 for a refusal; unregistering empties
a slot; a signal by index and one without set the one latch (R439, R440, R441). The refusal by -1, the index out
of range and the latch whatever the index are the spec's decision D19. -/
def Obligations.RegistryKeepsOneHandlerPerClass : Prop :=
  ∀ s : State,
    (∀ h p : IrqHandler, ∀ k : Fin 10, s.irqSlots[k.val] = some p → p.cls = h.cls →
      registerResult h s = -1 ∧ (registerHandler h s).irqSlots = s.irqSlots)
    ∧ (∀ h : IrqHandler, ∀ k : Fin 10,
      (∀ (j : Fin 10) (p : IrqHandler), s.irqSlots[j.val] = some p → p.cls ≠ h.cls) →
      s.irqSlots[k.val] = none → (∀ j : Fin 10, j < k → s.irqSlots[j.val] ≠ none) →
      registerResult h s = k.val ∧ (registerHandler h s).irqSlots = s.irqSlots.set k.val (some h))
    ∧ (∀ h : IrqHandler, (∀ k : Fin 10, s.irqSlots[k.val] ≠ none) →
      registerResult h s = -1 ∧ (registerHandler h s).irqSlots = s.irqSlots)
    ∧ (∀ k : Fin 10, unregisterHandler (k.val : Int) s = { s with irqSlots := s.irqSlots.set k.val none })
    ∧ (∀ n : Int, (n < 0 ∨ 10 ≤ n) → unregisterHandler n s = s)
    ∧ (∀ n : Int, hostCall (.generateInterruptAt n) s = { s with irqPending := true }
      ∧ hostCall .generateInterrupt s = hostCall (.generateInterruptAt n) s)

/-- No instruction and no exception changes a byte at or above the writable boundary (R71, R481 (g)). -/
def Obligations.RomIsUnchangedByAStep : Prop :=
  ∀ (s t : State) (x : Nat), NoCall s → s.hostTraps.headD [] = [] → step s = .next t →
    s.config.totalRamSize ≤ x → t.mem.get x = s.mem.get x

/-- In user mode no instruction but a host trap changes the system byte or a shadow stack pointer, unless it
enters supervisor mode (R33, R447). -/
def Obligations.UserModeKeepsTheSystemByte : Prop :=
  ∀ (i : Instr) (s t : State), (∀ w, i ≠ .hosttrap w) → s.sr.s = false → exec i s = .next t →
    t.sr.s = false →
    t.sr.t = s.sr.t ∧ t.sr.i = s.sr.i ∧ t.usp = s.usp ∧ t.ssp = s.ssp
    ∧ t.traceEnabled = s.traceEnabled ∧ t.stopped = s.stopped

/-- What the host call `reset()` leaves: the status word, the two vectors, the latch and the stopped state,
and what it does not touch. The launch parameters are the model's configuration (R46, R470; logs 1 and 4). -/
def Obligations.ResetLeavesTheSpecifiedValues : Prop :=
  ∀ s t : State, t = hostCall .reset s →
    t.sr.toWord = 0x2700#16 ∧ t.traceEnabled = false ∧ t.irqPending = false ∧ t.stopped = false
    ∧ t.areg 7 = s.memRead .l 0#32 ∧ GoesTo (s.memRead .l 4#32).toNat t
    ∧ t.mem = s.mem ∧ t.irqSlots = s.irqSlots ∧ t.config = s.config
    ∧ State.reset = hostCall .reset (construct Config.testT)

/-- The invariant of R481 holds at reset. -/
def Obligations.InvariantHoldsAtReset : Prop := State.reset.Inv ∧ State.reset.config.wf = true

/-- Every step keeps the invariant of R481, whatever the host does, and the configuration. -/
def Obligations.StepKeepsTheInvariant : Prop :=
  ∀ s t : State, s.config.wf = true → s.Inv → step s = .next t → t.Inv ∧ t.config = s.config

end Statements
end

