-- ==== Sys2Proof/Laws/Memory.lean ====
section
/-! SUPPORT. The laws of the memory store: a read after a write, and the canonical form that every write
keeps. -/

namespace Sys2Proof.Machine

theorem getCell_dropCell (a x : Nat) (cells : List Host.Cell) :
    getCell x (dropCell a cells) = if x = a then Memory.unlisted else getCell x cells := by
  induction cells with
  | nil => simp [dropCell, getCell]
  | cons p rest ih =>
    obtain ⟨k, c⟩ := p
    simp only [dropCell] at ih
    by_cases hk : k = a
    · subst hk
      by_cases hx : x = k
      · subst hx; simpa [dropCell, getCell] using ih
      · simpa [dropCell, getCell, hx, Ne.symm hx] using ih
    · by_cases hx : k = x
      · subst hx; simp [dropCell, getCell, hk]
      · simpa [dropCell, getCell, hk, hx] using ih

theorem getCell_insertCell (a x : Nat) (b : Byte) (cells : List Host.Cell) :
    getCell x (insertCell a b cells) = if x = a then b else getCell x cells := by
  induction cells with
  | nil => simp [insertCell, getCell, eq_comm]
  | cons p rest ih =>
    obtain ⟨k, c⟩ := p
    unfold insertCell
    split
    · rename_i hlt
      simp only [getCell, ih]
      by_cases hx : k = x
      · subst hx; simp [Nat.ne_of_lt hlt]
      · simp [hx]
    · split
      · rename_i _ hk
        subst hk
        by_cases hx : x = k
        · subst hx; simp [getCell]
        · simp [getCell, hx, Ne.symm hx]
      · by_cases hx : x = a
        · subst hx; simp [getCell]
        · simp [getCell, hx, Ne.symm hx]

/-- A read after a write of one byte. -/
theorem Memory.get_put (m : Memory) (a x : Nat) (b : Byte) :
    (m.put a b).get x = if x = a then b else m.get x := by
  unfold Memory.get Memory.put putCell
  split
  · rename_i hb; subst hb; exact getCell_dropCell a x m.cells
  · exact getCell_insertCell a x b m.cells

@[simp] theorem Memory.get_put_same (m : Memory) (a : Nat) (b : Byte) : (m.put a b).get a = b := by
  simp [Memory.get_put]

/-- A write of bytes leaves every address outside them. -/
theorem Memory.get_putBytes_outside (bs : List Byte) (m : Memory) (a x : Nat)
    (h : x < a ∨ a + bs.length ≤ x) : (m.putBytes a bs).get x = m.get x := by
  induction bs generalizing m a with
  | nil => rfl
  | cons b rest ih =>
    simp only [List.length_cons] at h
    rw [Memory.putBytes, ih (m.put a b) (a + 1) (by omega), Memory.get_put, if_neg (by omega)]

/-- A write of bytes gives each of its addresses its byte. -/
theorem Memory.get_putBytes_inside (bs : List Byte) (m : Memory) (a k : Nat) (h : k < bs.length) :
    (m.putBytes a bs).get (a + k) = bs[k] := by
  induction bs generalizing m a k with
  | nil => simp at h
  | cons b rest ih =>
    cases k with
    | zero =>
      rw [Memory.putBytes, Memory.get_putBytes_outside rest _ _ _ (by omega)]
      simp
    | succ k =>
      have := ih (m.put a b) (a + 1) k (by simpa using h)
      simp only [Memory.putBytes, List.getElem_cons_succ]
      rw [← this]
      congr 1
      omega

/-! The canonical form. -/

theorem Memory.wf_iff (m : Memory) :
    m.wf = true ↔ m.cells.Pairwise (fun p q => p.1 < q.1) ∧ ∀ p ∈ m.cells, p.2 ≠ Memory.unlisted := by
  simp [Memory.wf]

theorem mem_insertCell {a : Nat} {b : Byte} {cells : List Host.Cell} {p : Host.Cell}
    (h : p ∈ insertCell a b cells) : p = (a, b) ∨ p ∈ cells := by
  induction cells with
  | nil => simpa [insertCell] using h
  | cons q rest ih =>
    obtain ⟨k, c⟩ := q
    unfold insertCell at h
    split at h
    · rcases List.mem_cons.mp h with h | h
      · exact .inr (h ▸ List.mem_cons_self)
      · exact (ih h).imp id (List.mem_cons_of_mem _)
    · split at h
      · exact (List.mem_cons.mp h).imp id (List.mem_cons_of_mem _)
      · exact List.mem_cons.mp h

theorem pairwise_insertCell (a : Nat) (b : Byte) (cells : List Host.Cell)
    (h : cells.Pairwise (fun p q => p.1 < q.1)) :
    (insertCell a b cells).Pairwise (fun p q => p.1 < q.1) := by
  induction cells with
  | nil => simp [insertCell]
  | cons q rest ih =>
    obtain ⟨k, c⟩ := q
    obtain ⟨hq, hrest⟩ := List.pairwise_cons.mp h
    unfold insertCell
    split
    · rename_i hlt
      refine List.pairwise_cons.mpr ⟨fun p hp => ?_, ih hrest⟩
      rcases mem_insertCell hp with rfl | hp
      · exact hlt
      · exact hq p hp
    · rename_i hlt
      split
      · rename_i hk; subst hk
        exact List.pairwise_cons.mpr ⟨hq, hrest⟩
      · rename_i hk
        refine List.pairwise_cons.mpr ⟨fun p hp => ?_, h⟩
        rcases List.mem_cons.mp hp with rfl | hp
        · simp only; omega
        · have := hq p hp; simp only at this ⊢; omega

/-- A write of one byte keeps the canonical form. -/
theorem Memory.put_wf (m : Memory) (a : Nat) (b : Byte) (h : m.wf = true) : (m.put a b).wf = true := by
  rw [Memory.wf_iff] at h ⊢
  obtain ⟨hp, hz⟩ := h
  unfold Memory.put putCell
  split
  · exact ⟨hp.filter _, fun p hm => hz p (List.mem_of_mem_filter hm)⟩
  · rename_i hb
    refine ⟨pairwise_insertCell a b _ hp, fun p hm => ?_⟩
    rcases mem_insertCell hm with rfl | hm
    · exact hb
    · exact hz p hm

/-- A write of bytes keeps the canonical form. -/
theorem Memory.putBytes_wf (bs : List Byte) (m : Memory) (a : Nat) (h : m.wf = true) :
    (m.putBytes a bs).wf = true := by
  induction bs generalizing m a with
  | nil => exact h
  | cons b rest ih => exact ih _ _ (m.put_wf a b h)

theorem Memory.below_iff (m : Memory) (n : Nat) : m.below n = true ↔ ∀ p ∈ m.cells, p.1 < n := by
  simp [Memory.below]

/-- A write below a bound lists nothing at or above it. -/
theorem Memory.put_below (m : Memory) (a n : Nat) (b : Byte) (h : m.below n = true) (ha : a < n) :
    (m.put a b).below n = true := by
  rw [Memory.below_iff] at h ⊢
  unfold Memory.put putCell
  split
  · exact fun p hm => h p (List.mem_of_mem_filter hm)
  · intro p hm
    rcases mem_insertCell hm with rfl | hm
    · exact ha
    · exact h p hm

theorem Memory.putBytes_below (bs : List Byte) (m : Memory) (a n : Nat) (h : m.below n = true)
    (ha : a + bs.length ≤ n) : (m.putBytes a bs).below n = true := by
  induction bs generalizing m a with
  | nil => exact h
  | cons b rest ih =>
    simp only [List.length_cons] at ha
    exact ih _ _ (m.put_below a n b h (by omega)) (by omega)

theorem Memory.reset_wf : ({ cells := [] } : Memory).wf = true := rfl

theorem Memory.State_reset_wf : State.reset.mem.wf = true := rfl

end Sys2Proof.Machine
end

