-- ==== Sys2Proof/Laws/State.lean ====
section
/-! SUPPORT. One lemma per field per update of the state: what an update leaves, and what it changes. -/

namespace Sys2Proof.Machine

variable (s : State)

/-! `State.setD` -/

@[simp] theorem State.setD_areg (r : RegNo) (v : Long) (q : RegNo) : (s.setD r v).areg q = s.areg q := rfl
@[simp] theorem State.setD_usp (r : RegNo) (v : Long) : (s.setD r v).usp = s.usp := rfl
@[simp] theorem State.setD_ssp (r : RegNo) (v : Long) : (s.setD r v).ssp = s.ssp := rfl
@[simp] theorem State.setD_pc (r : RegNo) (v : Long) : (s.setD r v).pc = s.pc := rfl
@[simp] theorem State.setD_sr (r : RegNo) (v : Long) : (s.setD r v).sr = s.sr := rfl
@[simp] theorem State.setD_traceEnabled (r : RegNo) (v : Long) : (s.setD r v).traceEnabled = s.traceEnabled := rfl
@[simp] theorem State.setD_stopped (r : RegNo) (v : Long) : (s.setD r v).stopped = s.stopped := rfl
@[simp] theorem State.setD_irqPending (r : RegNo) (v : Long) : (s.setD r v).irqPending = s.irqPending := rfl
@[simp] theorem State.setD_irqSlots (r : RegNo) (v : Long) : (s.setD r v).irqSlots = s.irqSlots := rfl
@[simp] theorem State.setD_mem (r : RegNo) (v : Long) : (s.setD r v).mem = s.mem := rfl
@[simp] theorem State.setD_events (r : RegNo) (v : Long) : (s.setD r v).events = s.events := rfl
@[simp] theorem State.setD_outcome (r : RegNo) (v : Long) : (s.setD r v).outcome = s.outcome := rfl
@[simp] theorem State.setD_hostInputs (r : RegNo) (v : Long) : (s.setD r v).hostInputs = s.hostInputs := rfl
@[simp] theorem State.setD_hostTraps (r : RegNo) (v : Long) : (s.setD r v).hostTraps = s.hostTraps := rfl
@[simp] theorem State.setD_draws (r : RegNo) (v : Long) : (s.setD r v).draws = s.draws := rfl
@[simp] theorem State.setD_config (r : RegNo) (v : Long) : (s.setD r v).config = s.config := rfl

/-! `State.setA` -/

@[simp] theorem State.setA_dreg (r : RegNo) (v : Long) (q : RegNo) : (s.setA r v).dreg q = s.dreg q := rfl
@[simp] theorem State.setA_usp (r : RegNo) (v : Long) : (s.setA r v).usp = s.usp := rfl
@[simp] theorem State.setA_ssp (r : RegNo) (v : Long) : (s.setA r v).ssp = s.ssp := rfl
@[simp] theorem State.setA_pc (r : RegNo) (v : Long) : (s.setA r v).pc = s.pc := rfl
@[simp] theorem State.setA_sr (r : RegNo) (v : Long) : (s.setA r v).sr = s.sr := rfl
@[simp] theorem State.setA_traceEnabled (r : RegNo) (v : Long) : (s.setA r v).traceEnabled = s.traceEnabled := rfl
@[simp] theorem State.setA_stopped (r : RegNo) (v : Long) : (s.setA r v).stopped = s.stopped := rfl
@[simp] theorem State.setA_irqPending (r : RegNo) (v : Long) : (s.setA r v).irqPending = s.irqPending := rfl
@[simp] theorem State.setA_irqSlots (r : RegNo) (v : Long) : (s.setA r v).irqSlots = s.irqSlots := rfl
@[simp] theorem State.setA_mem (r : RegNo) (v : Long) : (s.setA r v).mem = s.mem := rfl
@[simp] theorem State.setA_events (r : RegNo) (v : Long) : (s.setA r v).events = s.events := rfl
@[simp] theorem State.setA_outcome (r : RegNo) (v : Long) : (s.setA r v).outcome = s.outcome := rfl
@[simp] theorem State.setA_hostInputs (r : RegNo) (v : Long) : (s.setA r v).hostInputs = s.hostInputs := rfl
@[simp] theorem State.setA_hostTraps (r : RegNo) (v : Long) : (s.setA r v).hostTraps = s.hostTraps := rfl
@[simp] theorem State.setA_draws (r : RegNo) (v : Long) : (s.setA r v).draws = s.draws := rfl
@[simp] theorem State.setA_config (r : RegNo) (v : Long) : (s.setA r v).config = s.config := rfl

/-! `State.mergeD` -/

@[simp] theorem State.mergeD_areg (sz : Size) (r : RegNo) (v : Long) (q : RegNo) : (s.mergeD sz r v).areg q = s.areg q := rfl
@[simp] theorem State.mergeD_usp (sz : Size) (r : RegNo) (v : Long) : (s.mergeD sz r v).usp = s.usp := rfl
@[simp] theorem State.mergeD_ssp (sz : Size) (r : RegNo) (v : Long) : (s.mergeD sz r v).ssp = s.ssp := rfl
@[simp] theorem State.mergeD_pc (sz : Size) (r : RegNo) (v : Long) : (s.mergeD sz r v).pc = s.pc := rfl
@[simp] theorem State.mergeD_sr (sz : Size) (r : RegNo) (v : Long) : (s.mergeD sz r v).sr = s.sr := rfl
@[simp] theorem State.mergeD_traceEnabled (sz : Size) (r : RegNo) (v : Long) : (s.mergeD sz r v).traceEnabled = s.traceEnabled := rfl
@[simp] theorem State.mergeD_stopped (sz : Size) (r : RegNo) (v : Long) : (s.mergeD sz r v).stopped = s.stopped := rfl
@[simp] theorem State.mergeD_irqPending (sz : Size) (r : RegNo) (v : Long) : (s.mergeD sz r v).irqPending = s.irqPending := rfl
@[simp] theorem State.mergeD_irqSlots (sz : Size) (r : RegNo) (v : Long) : (s.mergeD sz r v).irqSlots = s.irqSlots := rfl
@[simp] theorem State.mergeD_mem (sz : Size) (r : RegNo) (v : Long) : (s.mergeD sz r v).mem = s.mem := rfl
@[simp] theorem State.mergeD_events (sz : Size) (r : RegNo) (v : Long) : (s.mergeD sz r v).events = s.events := rfl
@[simp] theorem State.mergeD_outcome (sz : Size) (r : RegNo) (v : Long) : (s.mergeD sz r v).outcome = s.outcome := rfl
@[simp] theorem State.mergeD_hostInputs (sz : Size) (r : RegNo) (v : Long) : (s.mergeD sz r v).hostInputs = s.hostInputs := rfl
@[simp] theorem State.mergeD_hostTraps (sz : Size) (r : RegNo) (v : Long) : (s.mergeD sz r v).hostTraps = s.hostTraps := rfl
@[simp] theorem State.mergeD_draws (sz : Size) (r : RegNo) (v : Long) : (s.mergeD sz r v).draws = s.draws := rfl
@[simp] theorem State.mergeD_config (sz : Size) (r : RegNo) (v : Long) : (s.mergeD sz r v).config = s.config := rfl

/-! `State.setSp` -/

@[simp] theorem State.setSp_dreg (v : Long) (q : RegNo) : (s.setSp v).dreg q = s.dreg q := rfl
@[simp] theorem State.setSp_usp (v : Long) : (s.setSp v).usp = s.usp := rfl
@[simp] theorem State.setSp_ssp (v : Long) : (s.setSp v).ssp = s.ssp := rfl
@[simp] theorem State.setSp_pc (v : Long) : (s.setSp v).pc = s.pc := rfl
@[simp] theorem State.setSp_sr (v : Long) : (s.setSp v).sr = s.sr := rfl
@[simp] theorem State.setSp_traceEnabled (v : Long) : (s.setSp v).traceEnabled = s.traceEnabled := rfl
@[simp] theorem State.setSp_stopped (v : Long) : (s.setSp v).stopped = s.stopped := rfl
@[simp] theorem State.setSp_irqPending (v : Long) : (s.setSp v).irqPending = s.irqPending := rfl
@[simp] theorem State.setSp_irqSlots (v : Long) : (s.setSp v).irqSlots = s.irqSlots := rfl
@[simp] theorem State.setSp_mem (v : Long) : (s.setSp v).mem = s.mem := rfl
@[simp] theorem State.setSp_events (v : Long) : (s.setSp v).events = s.events := rfl
@[simp] theorem State.setSp_outcome (v : Long) : (s.setSp v).outcome = s.outcome := rfl
@[simp] theorem State.setSp_hostInputs (v : Long) : (s.setSp v).hostInputs = s.hostInputs := rfl
@[simp] theorem State.setSp_hostTraps (v : Long) : (s.setSp v).hostTraps = s.hostTraps := rfl
@[simp] theorem State.setSp_draws (v : Long) : (s.setSp v).draws = s.draws := rfl
@[simp] theorem State.setSp_config (v : Long) : (s.setSp v).config = s.config := rfl

/-! `State.setPc` -/

@[simp] theorem State.setPc_dreg (t : Long) (q : RegNo) : (s.setPc t).dreg q = s.dreg q := rfl
@[simp] theorem State.setPc_areg (t : Long) (q : RegNo) : (s.setPc t).areg q = s.areg q := rfl
@[simp] theorem State.setPc_usp (t : Long) : (s.setPc t).usp = s.usp := rfl
@[simp] theorem State.setPc_ssp (t : Long) : (s.setPc t).ssp = s.ssp := rfl
@[simp] theorem State.setPc_sr (t : Long) : (s.setPc t).sr = s.sr := rfl
@[simp] theorem State.setPc_traceEnabled (t : Long) : (s.setPc t).traceEnabled = s.traceEnabled := rfl
@[simp] theorem State.setPc_stopped (t : Long) : (s.setPc t).stopped = s.stopped := rfl
@[simp] theorem State.setPc_irqPending (t : Long) : (s.setPc t).irqPending = s.irqPending := rfl
@[simp] theorem State.setPc_irqSlots (t : Long) : (s.setPc t).irqSlots = s.irqSlots := rfl
@[simp] theorem State.setPc_mem (t : Long) : (s.setPc t).mem = s.mem := rfl
@[simp] theorem State.setPc_events (t : Long) : (s.setPc t).events = s.events := rfl
@[simp] theorem State.setPc_outcome (t : Long) : (s.setPc t).outcome = s.outcome := rfl
@[simp] theorem State.setPc_hostInputs (t : Long) : (s.setPc t).hostInputs = s.hostInputs := rfl
@[simp] theorem State.setPc_hostTraps (t : Long) : (s.setPc t).hostTraps = s.hostTraps := rfl
@[simp] theorem State.setPc_draws (t : Long) : (s.setPc t).draws = s.draws := rfl
@[simp] theorem State.setPc_config (t : Long) : (s.setPc t).config = s.config := rfl

/-! `State.consume` -/

@[simp] theorem State.consume_dreg (n : Nat) (q : RegNo) : (s.consume n).dreg q = s.dreg q := rfl
@[simp] theorem State.consume_areg (n : Nat) (q : RegNo) : (s.consume n).areg q = s.areg q := rfl
@[simp] theorem State.consume_usp (n : Nat) : (s.consume n).usp = s.usp := rfl
@[simp] theorem State.consume_ssp (n : Nat) : (s.consume n).ssp = s.ssp := rfl
@[simp] theorem State.consume_sr (n : Nat) : (s.consume n).sr = s.sr := rfl
@[simp] theorem State.consume_traceEnabled (n : Nat) : (s.consume n).traceEnabled = s.traceEnabled := rfl
@[simp] theorem State.consume_stopped (n : Nat) : (s.consume n).stopped = s.stopped := rfl
@[simp] theorem State.consume_irqPending (n : Nat) : (s.consume n).irqPending = s.irqPending := rfl
@[simp] theorem State.consume_irqSlots (n : Nat) : (s.consume n).irqSlots = s.irqSlots := rfl
@[simp] theorem State.consume_mem (n : Nat) : (s.consume n).mem = s.mem := rfl
@[simp] theorem State.consume_events (n : Nat) : (s.consume n).events = s.events := rfl
@[simp] theorem State.consume_outcome (n : Nat) : (s.consume n).outcome = s.outcome := rfl
@[simp] theorem State.consume_hostInputs (n : Nat) : (s.consume n).hostInputs = s.hostInputs := rfl
@[simp] theorem State.consume_hostTraps (n : Nat) : (s.consume n).hostTraps = s.hostTraps := rfl
@[simp] theorem State.consume_draws (n : Nat) : (s.consume n).draws = s.draws := rfl
@[simp] theorem State.consume_config (n : Nat) : (s.consume n).config = s.config := rfl

/-! `State.setFlags` -/

@[simp] theorem State.setFlags_dreg (f : Flags) (q : RegNo) : (s.setFlags f).dreg q = s.dreg q := rfl
@[simp] theorem State.setFlags_areg (f : Flags) (q : RegNo) : (s.setFlags f).areg q = s.areg q := rfl
@[simp] theorem State.setFlags_usp (f : Flags) : (s.setFlags f).usp = s.usp := rfl
@[simp] theorem State.setFlags_ssp (f : Flags) : (s.setFlags f).ssp = s.ssp := rfl
@[simp] theorem State.setFlags_pc (f : Flags) : (s.setFlags f).pc = s.pc := rfl
@[simp] theorem State.setFlags_traceEnabled (f : Flags) : (s.setFlags f).traceEnabled = s.traceEnabled := rfl
@[simp] theorem State.setFlags_stopped (f : Flags) : (s.setFlags f).stopped = s.stopped := rfl
@[simp] theorem State.setFlags_irqPending (f : Flags) : (s.setFlags f).irqPending = s.irqPending := rfl
@[simp] theorem State.setFlags_irqSlots (f : Flags) : (s.setFlags f).irqSlots = s.irqSlots := rfl
@[simp] theorem State.setFlags_mem (f : Flags) : (s.setFlags f).mem = s.mem := rfl
@[simp] theorem State.setFlags_events (f : Flags) : (s.setFlags f).events = s.events := rfl
@[simp] theorem State.setFlags_outcome (f : Flags) : (s.setFlags f).outcome = s.outcome := rfl
@[simp] theorem State.setFlags_hostInputs (f : Flags) : (s.setFlags f).hostInputs = s.hostInputs := rfl
@[simp] theorem State.setFlags_hostTraps (f : Flags) : (s.setFlags f).hostTraps = s.hostTraps := rfl
@[simp] theorem State.setFlags_draws (f : Flags) : (s.setFlags f).draws = s.draws := rfl
@[simp] theorem State.setFlags_config (f : Flags) : (s.setFlags f).config = s.config := rfl

/-! `State.advanceDraws` -/

@[simp] theorem State.advanceDraws_dreg (n : Nat) (q : RegNo) : (s.advanceDraws n).dreg q = s.dreg q := rfl
@[simp] theorem State.advanceDraws_areg (n : Nat) (q : RegNo) : (s.advanceDraws n).areg q = s.areg q := rfl
@[simp] theorem State.advanceDraws_usp (n : Nat) : (s.advanceDraws n).usp = s.usp := rfl
@[simp] theorem State.advanceDraws_ssp (n : Nat) : (s.advanceDraws n).ssp = s.ssp := rfl
@[simp] theorem State.advanceDraws_pc (n : Nat) : (s.advanceDraws n).pc = s.pc := rfl
@[simp] theorem State.advanceDraws_sr (n : Nat) : (s.advanceDraws n).sr = s.sr := rfl
@[simp] theorem State.advanceDraws_traceEnabled (n : Nat) : (s.advanceDraws n).traceEnabled = s.traceEnabled := rfl
@[simp] theorem State.advanceDraws_stopped (n : Nat) : (s.advanceDraws n).stopped = s.stopped := rfl
@[simp] theorem State.advanceDraws_irqPending (n : Nat) : (s.advanceDraws n).irqPending = s.irqPending := rfl
@[simp] theorem State.advanceDraws_irqSlots (n : Nat) : (s.advanceDraws n).irqSlots = s.irqSlots := rfl
@[simp] theorem State.advanceDraws_mem (n : Nat) : (s.advanceDraws n).mem = s.mem := rfl
@[simp] theorem State.advanceDraws_events (n : Nat) : (s.advanceDraws n).events = s.events := rfl
@[simp] theorem State.advanceDraws_outcome (n : Nat) : (s.advanceDraws n).outcome = s.outcome := rfl
@[simp] theorem State.advanceDraws_hostInputs (n : Nat) : (s.advanceDraws n).hostInputs = s.hostInputs := rfl
@[simp] theorem State.advanceDraws_hostTraps (n : Nat) : (s.advanceDraws n).hostTraps = s.hostTraps := rfl
@[simp] theorem State.advanceDraws_config (n : Nat) : (s.advanceDraws n).config = s.config := rfl

/-! `State.drop32` -/

@[simp] theorem State.drop32_dreg (q : RegNo) : (s.drop32).dreg q = s.dreg q := rfl
@[simp] theorem State.drop32_usp : (s.drop32).usp = s.usp := rfl
@[simp] theorem State.drop32_ssp : (s.drop32).ssp = s.ssp := rfl
@[simp] theorem State.drop32_pc : (s.drop32).pc = s.pc := rfl
@[simp] theorem State.drop32_sr : (s.drop32).sr = s.sr := rfl
@[simp] theorem State.drop32_traceEnabled : (s.drop32).traceEnabled = s.traceEnabled := rfl
@[simp] theorem State.drop32_stopped : (s.drop32).stopped = s.stopped := rfl
@[simp] theorem State.drop32_irqPending : (s.drop32).irqPending = s.irqPending := rfl
@[simp] theorem State.drop32_irqSlots : (s.drop32).irqSlots = s.irqSlots := rfl
@[simp] theorem State.drop32_mem : (s.drop32).mem = s.mem := rfl
@[simp] theorem State.drop32_events : (s.drop32).events = s.events := rfl
@[simp] theorem State.drop32_outcome : (s.drop32).outcome = s.outcome := rfl
@[simp] theorem State.drop32_hostInputs : (s.drop32).hostInputs = s.hostInputs := rfl
@[simp] theorem State.drop32_hostTraps : (s.drop32).hostTraps = s.hostTraps := rfl
@[simp] theorem State.drop32_draws : (s.drop32).draws = s.draws := rfl
@[simp] theorem State.drop32_config : (s.drop32).config = s.config := rfl

/-! `State.drop16` -/

@[simp] theorem State.drop16_dreg (q : RegNo) : (s.drop16).dreg q = s.dreg q := rfl
@[simp] theorem State.drop16_usp : (s.drop16).usp = s.usp := rfl
@[simp] theorem State.drop16_ssp : (s.drop16).ssp = s.ssp := rfl
@[simp] theorem State.drop16_pc : (s.drop16).pc = s.pc := rfl
@[simp] theorem State.drop16_sr : (s.drop16).sr = s.sr := rfl
@[simp] theorem State.drop16_traceEnabled : (s.drop16).traceEnabled = s.traceEnabled := rfl
@[simp] theorem State.drop16_stopped : (s.drop16).stopped = s.stopped := rfl
@[simp] theorem State.drop16_irqPending : (s.drop16).irqPending = s.irqPending := rfl
@[simp] theorem State.drop16_irqSlots : (s.drop16).irqSlots = s.irqSlots := rfl
@[simp] theorem State.drop16_mem : (s.drop16).mem = s.mem := rfl
@[simp] theorem State.drop16_events : (s.drop16).events = s.events := rfl
@[simp] theorem State.drop16_outcome : (s.drop16).outcome = s.outcome := rfl
@[simp] theorem State.drop16_hostInputs : (s.drop16).hostInputs = s.hostInputs := rfl
@[simp] theorem State.drop16_hostTraps : (s.drop16).hostTraps = s.hostTraps := rfl
@[simp] theorem State.drop16_draws : (s.drop16).draws = s.draws := rfl
@[simp] theorem State.drop16_config : (s.drop16).config = s.config := rfl

/-! What the updates change. -/

theorem State.setD_dreg (r q : RegNo) (v : Long) :
    (s.setD r v).dreg q = if q = r then v else s.dreg q := by
  simp only [State.setD, State.dreg, Vector.getElem_set, Fin.ext_iff, eq_comm]

theorem State.setA_areg (r q : RegNo) (v : Long) :
    (s.setA r v).areg q = if q = r then v else s.areg q := by
  simp only [State.setA, State.areg, Vector.getElem_set, Fin.ext_iff, eq_comm]

@[simp] theorem State.setD_dreg_same (r : RegNo) (v : Long) : (s.setD r v).dreg r = v := by
  simp [State.setD_dreg]

@[simp] theorem State.setA_areg_same (r : RegNo) (v : Long) : (s.setA r v).areg r = v := by
  simp [State.setA_areg]

theorem State.mergeD_dreg (sz : Size) (r q : RegNo) (v : Long) :
    (s.mergeD sz r v).dreg q = if q = r then merge sz (s.dreg r) v else s.dreg q := by
  simp only [State.mergeD, State.setD_dreg]

theorem State.setSp_areg (q : RegNo) (v : Long) :
    (s.setSp v).areg q = if q = spNo then v else s.areg q := by
  simp only [State.setSp, State.setA_areg]

@[simp] theorem State.setSp_sp (v : Long) : (s.setSp v).sp = v := by
  simp [State.setSp, State.sp]

@[simp] theorem State.setPc_pc (t : Long) : (s.setPc t).pc = t.extractLsb' 1 31 := rfl

@[simp] theorem State.consume_pc (n : Nat) : (s.consume n).pc = s.pc + BitVec.ofNat 31 n := rfl

@[simp] theorem State.setFlags_sr (f : Flags) : (s.setFlags f).sr = { s.sr with ccr := f } := rfl

@[simp] theorem State.advanceDraws_draws (n : Nat) : (s.advanceDraws n).draws = s.draws + n := rfl

theorem State.drop32_areg (q : RegNo) :
    s.drop32.areg q = if q = spNo then s.sp + 4#32 else s.areg q := by
  simp only [State.drop32, State.setSp_areg]

theorem State.drop16_areg (q : RegNo) :
    s.drop16.areg q = if q = spNo then s.sp + 2#32 else s.areg q := by
  simp only [State.drop16, State.setSp_areg]

/-! A store changes memory and the events alone. -/

@[simp] theorem State.memWrite_dreg (sz : Size) (a v : Long) (q : RegNo) :
    (s.memWrite sz a v).dreg q = s.dreg q := by
  unfold State.memWrite; split <;> rfl

@[simp] theorem State.memWrite_areg (sz : Size) (a v : Long) (q : RegNo) :
    (s.memWrite sz a v).areg q = s.areg q := by
  unfold State.memWrite; split <;> rfl

@[simp] theorem State.memWrite_usp (sz : Size) (a v : Long) :
    (s.memWrite sz a v).usp = s.usp := by
  unfold State.memWrite; split <;> rfl

@[simp] theorem State.memWrite_ssp (sz : Size) (a v : Long) :
    (s.memWrite sz a v).ssp = s.ssp := by
  unfold State.memWrite; split <;> rfl

@[simp] theorem State.memWrite_pc (sz : Size) (a v : Long) :
    (s.memWrite sz a v).pc = s.pc := by
  unfold State.memWrite; split <;> rfl

@[simp] theorem State.memWrite_sr (sz : Size) (a v : Long) :
    (s.memWrite sz a v).sr = s.sr := by
  unfold State.memWrite; split <;> rfl

@[simp] theorem State.memWrite_traceEnabled (sz : Size) (a v : Long) :
    (s.memWrite sz a v).traceEnabled = s.traceEnabled := by
  unfold State.memWrite; split <;> rfl

@[simp] theorem State.memWrite_stopped (sz : Size) (a v : Long) :
    (s.memWrite sz a v).stopped = s.stopped := by
  unfold State.memWrite; split <;> rfl

@[simp] theorem State.memWrite_irqPending (sz : Size) (a v : Long) :
    (s.memWrite sz a v).irqPending = s.irqPending := by
  unfold State.memWrite; split <;> rfl

@[simp] theorem State.memWrite_irqSlots (sz : Size) (a v : Long) :
    (s.memWrite sz a v).irqSlots = s.irqSlots := by
  unfold State.memWrite; split <;> rfl

@[simp] theorem State.memWrite_outcome (sz : Size) (a v : Long) :
    (s.memWrite sz a v).outcome = s.outcome := by
  unfold State.memWrite; split <;> rfl

@[simp] theorem State.memWrite_hostInputs (sz : Size) (a v : Long) :
    (s.memWrite sz a v).hostInputs = s.hostInputs := by
  unfold State.memWrite; split <;> rfl

@[simp] theorem State.memWrite_hostTraps (sz : Size) (a v : Long) :
    (s.memWrite sz a v).hostTraps = s.hostTraps := by
  unfold State.memWrite; split <;> rfl

@[simp] theorem State.memWrite_draws (sz : Size) (a v : Long) :
    (s.memWrite sz a v).draws = s.draws := by
  unfold State.memWrite; split <;> rfl

@[simp] theorem State.memWrite_config (sz : Size) (a v : Long) :
    (s.memWrite sz a v).config = s.config := by
  unfold State.memWrite; split <;> rfl

theorem State.memWrite_mem (sz : Size) (a v : Long) :
    (s.memWrite sz a v).mem =
      if s.writable sz a then s.mem.putBytes (accessAddr s.config sz a) (bytesOf sz v) else s.mem := by
  unfold State.memWrite; split <;> rfl

theorem State.memWrite_events (sz : Size) (a v : Long) :
    (s.memWrite sz a v).events =
      if s.writable sz a then s.events ++ screenEvents s.config sz a v else s.events := by
  unfold State.memWrite; split <;> rfl

/-! A read depends on memory and the configuration alone. -/

theorem State.memRead_congr {s t : State} (hm : t.mem = s.mem) (hc : t.config = s.config) (sz : Size)
    (a : Long) : t.memRead sz a = s.memRead sz a := by
  simp only [State.memRead, hm, hc]

theorem State.writable_congr {s t : State} (hc : t.config = s.config) (sz : Size) (a : Long) :
    t.writable sz a = s.writable sz a := by
  simp only [State.writable, hc]

@[simp] theorem State.setD_memRead (r : RegNo) (v : Long) (z : Size) (a : Long) : (s.setD r v).memRead z a = s.memRead z a := rfl
@[simp] theorem State.setA_memRead (r : RegNo) (v : Long) (z : Size) (a : Long) : (s.setA r v).memRead z a = s.memRead z a := rfl
@[simp] theorem State.mergeD_memRead (sz : Size) (r : RegNo) (v : Long) (z : Size) (a : Long) : (s.mergeD sz r v).memRead z a = s.memRead z a := rfl
@[simp] theorem State.setSp_memRead (v : Long) (z : Size) (a : Long) : (s.setSp v).memRead z a = s.memRead z a := rfl
@[simp] theorem State.setPc_memRead (t : Long) (z : Size) (a : Long) : (s.setPc t).memRead z a = s.memRead z a := rfl
@[simp] theorem State.consume_memRead (n : Nat) (z : Size) (a : Long) : (s.consume n).memRead z a = s.memRead z a := rfl
@[simp] theorem State.setFlags_memRead (f : Flags) (z : Size) (a : Long) : (s.setFlags f).memRead z a = s.memRead z a := rfl
@[simp] theorem State.advanceDraws_memRead (n : Nat) (z : Size) (a : Long) : (s.advanceDraws n).memRead z a = s.memRead z a := rfl
@[simp] theorem State.drop32_memRead (z : Size) (a : Long) : (s.drop32).memRead z a = s.memRead z a := rfl
@[simp] theorem State.drop16_memRead (z : Size) (a : Long) : (s.drop16).memRead z a = s.memRead z a := rfl

/-! The stack swap and the write of the status register. -/

@[simp] theorem State.swapStacks_pc (b : Bool) : (s.swapStacks b).pc = s.pc := by
  unfold State.swapStacks; split <;> [rfl; (split <;> rfl)]

@[simp] theorem State.swapStacks_stopped (b : Bool) : (s.swapStacks b).stopped = s.stopped := by
  unfold State.swapStacks; split <;> [rfl; (split <;> rfl)]

@[simp] theorem State.swapStacks_irqPending (b : Bool) : (s.swapStacks b).irqPending = s.irqPending := by
  unfold State.swapStacks; split <;> [rfl; (split <;> rfl)]

@[simp] theorem State.swapStacks_irqSlots (b : Bool) : (s.swapStacks b).irqSlots = s.irqSlots := by
  unfold State.swapStacks; split <;> [rfl; (split <;> rfl)]

@[simp] theorem State.swapStacks_mem (b : Bool) : (s.swapStacks b).mem = s.mem := by
  unfold State.swapStacks; split <;> [rfl; (split <;> rfl)]

@[simp] theorem State.swapStacks_events (b : Bool) : (s.swapStacks b).events = s.events := by
  unfold State.swapStacks; split <;> [rfl; (split <;> rfl)]

@[simp] theorem State.swapStacks_outcome (b : Bool) : (s.swapStacks b).outcome = s.outcome := by
  unfold State.swapStacks; split <;> [rfl; (split <;> rfl)]

@[simp] theorem State.swapStacks_hostInputs (b : Bool) : (s.swapStacks b).hostInputs = s.hostInputs := by
  unfold State.swapStacks; split <;> [rfl; (split <;> rfl)]

@[simp] theorem State.swapStacks_hostTraps (b : Bool) : (s.swapStacks b).hostTraps = s.hostTraps := by
  unfold State.swapStacks; split <;> [rfl; (split <;> rfl)]

@[simp] theorem State.swapStacks_draws (b : Bool) : (s.swapStacks b).draws = s.draws := by
  unfold State.swapStacks; split <;> [rfl; (split <;> rfl)]

@[simp] theorem State.swapStacks_config (b : Bool) : (s.swapStacks b).config = s.config := by
  unfold State.swapStacks; split <;> [rfl; (split <;> rfl)]

@[simp] theorem State.swapStacks_sr (b : Bool) : (s.swapStacks b).sr = s.sr := by
  unfold State.swapStacks; split <;> [rfl; (split <;> rfl)]

@[simp] theorem State.swapStacks_traceEnabled (b : Bool) : (s.swapStacks b).traceEnabled = s.traceEnabled := by
  unfold State.swapStacks; split <;> [rfl; (split <;> rfl)]

@[simp] theorem State.swapStacks_dreg (b : Bool) (q : RegNo) : (s.swapStacks b).dreg q = s.dreg q := by
  unfold State.swapStacks; split <;> [rfl; (split <;> rfl)]

theorem State.swapStacks_areg (b : Bool) (q : RegNo) :
    (s.swapStacks b).areg q =
      if q = spNo then (if s.sr.s = b then s.sp else if b then s.ssp else s.usp) else s.areg q := by
  have h : ∀ v : Long, ({ s with a := s.a.set spNo.val v } : State).areg q
      = if q = spNo then v else s.areg q := fun v => s.setA_areg spNo q v
  unfold State.swapStacks
  cases hs : s.sr.s <;> cases b <;> simp
  all_goals first
    | exact h _
    | (intro hq; subst hq; rfl)

theorem State.swapStacks_usp (b : Bool) :
    (s.swapStacks b).usp = if s.sr.s = false ∧ b = true then s.sp else s.usp := by
  unfold State.swapStacks; cases s.sr.s <;> cases b <;> rfl

theorem State.swapStacks_ssp (b : Bool) :
    (s.swapStacks b).ssp = if s.sr.s = true ∧ b = false then s.sp else s.ssp := by
  unfold State.swapStacks; cases s.sr.s <;> cases b <;> rfl

@[simp] theorem State.setSR_dreg (v : Word) (q : RegNo) : (s.setSR v).dreg q = s.dreg q :=
  s.swapStacks_dreg (StatusReg.ofWord v).s q

@[simp] theorem State.setSR_pc (v : Word) : (s.setSR v).pc = s.pc :=
  s.swapStacks_pc (StatusReg.ofWord v).s

@[simp] theorem State.setSR_stopped (v : Word) : (s.setSR v).stopped = s.stopped :=
  s.swapStacks_stopped (StatusReg.ofWord v).s

@[simp] theorem State.setSR_irqPending (v : Word) : (s.setSR v).irqPending = s.irqPending :=
  s.swapStacks_irqPending (StatusReg.ofWord v).s

@[simp] theorem State.setSR_irqSlots (v : Word) : (s.setSR v).irqSlots = s.irqSlots :=
  s.swapStacks_irqSlots (StatusReg.ofWord v).s

@[simp] theorem State.setSR_mem (v : Word) : (s.setSR v).mem = s.mem :=
  s.swapStacks_mem (StatusReg.ofWord v).s

@[simp] theorem State.setSR_events (v : Word) : (s.setSR v).events = s.events :=
  s.swapStacks_events (StatusReg.ofWord v).s

@[simp] theorem State.setSR_outcome (v : Word) : (s.setSR v).outcome = s.outcome :=
  s.swapStacks_outcome (StatusReg.ofWord v).s

@[simp] theorem State.setSR_hostInputs (v : Word) : (s.setSR v).hostInputs = s.hostInputs :=
  s.swapStacks_hostInputs (StatusReg.ofWord v).s

@[simp] theorem State.setSR_hostTraps (v : Word) : (s.setSR v).hostTraps = s.hostTraps :=
  s.swapStacks_hostTraps (StatusReg.ofWord v).s

@[simp] theorem State.setSR_draws (v : Word) : (s.setSR v).draws = s.draws :=
  s.swapStacks_draws (StatusReg.ofWord v).s

@[simp] theorem State.setSR_config (v : Word) : (s.setSR v).config = s.config :=
  s.swapStacks_config (StatusReg.ofWord v).s

@[simp] theorem State.setSR_sr (v : Word) : (s.setSR v).sr = StatusReg.ofWord v := rfl

@[simp] theorem State.setSR_traceEnabled (v : Word) :
    (s.setSR v).traceEnabled = (StatusReg.ofWord v).t := rfl

theorem State.setSR_areg (v : Word) (q : RegNo) :
    (s.setSR v).areg q = (s.swapStacks (StatusReg.ofWord v).s).areg q := rfl

theorem State.setSR_usp (v : Word) : (s.setSR v).usp = (s.swapStacks (StatusReg.ofWord v).s).usp := rfl

theorem State.setSR_ssp (v : Word) : (s.setSR v).ssp = (s.swapStacks (StatusReg.ofWord v).s).ssp := rfl

end Sys2Proof.Machine
end

