-- ==== Sys2Proof/Laws/Ops.lean ====
section
/-! SUPPORT. What the memory accessors, the stack and the exception entry can do, said once each. -/

namespace Sys2Proof.Machine

@[simp] theorem bytesOf_length (sz : Size) (v : Long) : (bytesOf sz v).length = sizeBytes sz := by
  cases sz <;> rfl

theorem trunc_b (v : Long) : trunc .b v = (v.extractLsb' 0 8).setWidth 32 := by
  apply BitVec.eq_of_getLsbD_eq
  intro i hi
  simp only [trunc, sizeMask, BitVec.getLsbD_and, BitVec.getLsbD_setWidth, BitVec.getLsbD_extractLsb']
  interval_cases i <;> simp

theorem trunc_w (v : Long) :
    trunc .w v = (v.extractLsb' 8 8 ++ v.extractLsb' 0 8 : BitVec 16).setWidth 32 := by
  apply BitVec.eq_of_getLsbD_eq
  intro i hi
  simp only [trunc, sizeMask, BitVec.getLsbD_and, BitVec.getLsbD_setWidth, BitVec.getLsbD_append,
    BitVec.getLsbD_extractLsb']
  interval_cases i <;> simp

theorem trunc_l (v : Long) :
    trunc .l v = v.extractLsb' 24 8 ++ v.extractLsb' 16 8 ++ v.extractLsb' 8 8 ++ v.extractLsb' 0 8 := by
  apply BitVec.eq_of_getLsbD_eq
  intro i hi
  simp only [trunc, sizeMask, BitVec.getLsbD_and, BitVec.getLsbD_append, BitVec.getLsbD_extractLsb']
  interval_cases i <;> simp

@[simp] theorem trunc_l_eq (v : Long) : trunc .l v = v := by
  apply BitVec.eq_of_getLsbD_eq
  intro i hi
  simp only [trunc, sizeMask, BitVec.getLsbD_and]
  interval_cases i <;> simp

/-- Reading back bytes just written (R63). -/
theorem readBytes_putBytes (m : Memory) (sz : Size) (a : Nat) (v : Long) :
    readBytes (m.putBytes a (bytesOf sz v)) sz a = trunc sz v := by
  have h := fun k hk => Memory.get_putBytes_inside (bytesOf sz v) m a k hk
  cases sz with
  | b =>
    rw [trunc_b, readBytes]
    have h0 := h 0 (by simp [sizeBytes])
    rw [Nat.add_zero] at h0
    rw [h0]; rfl
  | w =>
    rw [trunc_w, readBytes]
    have h0 := h 0 (by simp [sizeBytes])
    rw [Nat.add_zero] at h0
    rw [h0, h 1 (by simp [sizeBytes])]; rfl
  | l =>
    rw [trunc_l, readBytes]
    have h0 := h 0 (by simp [sizeBytes])
    rw [Nat.add_zero] at h0
    rw [h0, h 1 (by simp [sizeBytes]), h 2 (by simp [sizeBytes]), h 3 (by simp [sizeBytes])]; rfl

/-- A read depends on its own bytes alone. -/
theorem readBytes_congr {m m' : Memory} {sz : Size} {a : Nat}
    (h : ∀ x, a ≤ x → x < a + sizeBytes sz → m'.get x = m.get x) :
    readBytes m' sz a = readBytes m sz a := by
  cases sz <;> simp only [sizeBytes] at h <;> unfold readBytes
  · rw [h a (by omega) (by omega)]
  · rw [h a (by omega) (by omega), h (a + 1) (by omega) (by omega)]
  · rw [h a (by omega) (by omega), h (a + 1) (by omega) (by omega), h (a + 2) (by omega) (by omega),
      h (a + 3) (by omega) (by omega)]

variable (s : State)

/-- A store leaves every byte outside the bytes it stores. -/
theorem State.memWrite_get_outside (sz : Size) (a v : Long) (x : Nat)
    (h : x < accessAddr s.config sz a ∨ accessAddr s.config sz a + sizeBytes sz ≤ x) :
    (s.memWrite sz a v).mem.get x = s.mem.get x := by
  rw [State.memWrite_mem]
  split
  · exact Memory.get_putBytes_outside _ _ _ _ (by simpa using h)
  · rfl

/-- A store that is not stored leaves the state (R69 to R71). -/
theorem State.memWrite_dropped (sz : Size) (a v : Long) (h : s.writable sz a = false) :
    s.memWrite sz a v = s := by
  simp [State.memWrite, h]

/-- A store is read back (R73). -/
theorem State.memRead_memWrite_same (sz : Size) (a v : Long)
    (hc : s.config.totalRamSize ≤ s.config.totalMemSize) (h : s.writable sz a = true) :
    (s.memWrite sz a v).memRead sz a = trunc sz v := by
  have hw := of_decide_eq_true h
  rw [State.memRead, State.memWrite_config, if_pos (by omega), State.memWrite_mem, if_pos h,
    readBytes_putBytes]

/-- A store is not seen by a read of other bytes. -/
theorem State.memRead_memWrite_other (sz z : Size) (a b v : Long)
    (h : accessAddr s.config z b + sizeBytes z ≤ accessAddr s.config sz a ∨
      accessAddr s.config sz a + sizeBytes sz ≤ accessAddr s.config z b) :
    (s.memWrite sz a v).memRead z b = s.memRead z b := by
  simp only [State.memRead, State.memWrite_config]
  split
  · exact readBytes_congr fun x hx hx' => s.memWrite_get_outside sz a v x (by omega)
  · rfl

/-- A store keeps the canonical form. -/
theorem State.memWrite_wf (sz : Size) (a v : Long) (h : s.mem.wf = true) :
    (s.memWrite sz a v).mem.wf = true := by
  rw [State.memWrite_mem]
  split
  · exact Memory.putBytes_wf _ _ _ h
  · exact h

/-- A store lists nothing at or above a bound that the writable boundary does not pass. -/
theorem State.memWrite_below (sz : Size) (a v : Long) (n : Nat) (hn : s.config.totalRamSize ≤ n)
    (h : s.mem.below n = true) : (s.memWrite sz a v).mem.below n = true := by
  rw [State.memWrite_mem]
  split
  · rename_i hw
    have := of_decide_eq_true hw
    exact Memory.putBytes_below _ _ _ _ h (by simpa using by omega)
  · exact h

/-- A store leaves every byte at or above the writable boundary. -/
theorem State.memWrite_rom (sz : Size) (a v : Long) (x : Nat) (hx : s.config.totalRamSize ≤ x) :
    (s.memWrite sz a v).mem.get x = s.mem.get x := by
  rw [State.memWrite_mem]
  split
  · rename_i hw
    have := of_decide_eq_true hw
    exact Memory.get_putBytes_outside _ _ _ _ (by simpa using by omega)
  · rfl

theorem bulkStore_wf (c : Config) (bs : List Byte) (dest : Long) (m : Memory) (h : m.wf = true) :
    (bulkStore c dest m bs).wf = true := by
  induction bs generalizing dest m with
  | nil => exact h
  | cons b rest ih =>
    refine ih _ _ ?_
    split
    · exact m.put_wf _ _ h
    · exact h

theorem bulkStore_below (c : Config) (bs : List Byte) (dest : Long) (m : Memory)
    (h : m.below c.totalMemSize = true) : (bulkStore c dest m bs).below c.totalMemSize = true := by
  induction bs generalizing dest m with
  | nil => exact h
  | cons b rest ih =>
    refine ih _ _ ?_
    split
    · exact m.put_below _ _ _ h ‹_›
    · exact h

/-! The stack. -/

theorem State.push32_areg (v : Long) (q : RegNo) :
    (s.push32 v).areg q = if q = spNo then s.sp - 4#32 else s.areg q := by
  rw [State.push32, State.memWrite_areg, State.setSp_areg]

theorem State.push16_areg (v : Word) (q : RegNo) :
    (s.push16 v).areg q = if q = spNo then s.sp - 2#32 else s.areg q := by
  rw [State.push16, State.memWrite_areg, State.setSp_areg]

theorem State.push32_sp (v : Long) : (s.push32 v).sp = s.sp - 4#32 := by
  simp [State.sp, State.push32_areg]

theorem State.push16_sp (v : Word) : (s.push16 v).sp = s.sp - 2#32 := by
  simp [State.sp, State.push16_areg]

@[simp] theorem State.push32_dreg (v : Long) (q : RegNo) : (s.push32 v).dreg q = s.dreg q := by
  simp [State.push32]

@[simp] theorem State.push32_usp (v : Long) : (s.push32 v).usp = s.usp := by
  simp [State.push32]

@[simp] theorem State.push32_ssp (v : Long) : (s.push32 v).ssp = s.ssp := by
  simp [State.push32]

@[simp] theorem State.push32_pc (v : Long) : (s.push32 v).pc = s.pc := by
  simp [State.push32]

@[simp] theorem State.push32_sr (v : Long) : (s.push32 v).sr = s.sr := by
  simp [State.push32]

@[simp] theorem State.push32_traceEnabled (v : Long) : (s.push32 v).traceEnabled = s.traceEnabled := by
  simp [State.push32]

@[simp] theorem State.push32_stopped (v : Long) : (s.push32 v).stopped = s.stopped := by
  simp [State.push32]

@[simp] theorem State.push32_irqPending (v : Long) : (s.push32 v).irqPending = s.irqPending := by
  simp [State.push32]

@[simp] theorem State.push32_irqSlots (v : Long) : (s.push32 v).irqSlots = s.irqSlots := by
  simp [State.push32]

@[simp] theorem State.push32_outcome (v : Long) : (s.push32 v).outcome = s.outcome := by
  simp [State.push32]

@[simp] theorem State.push32_hostInputs (v : Long) : (s.push32 v).hostInputs = s.hostInputs := by
  simp [State.push32]

@[simp] theorem State.push32_hostTraps (v : Long) : (s.push32 v).hostTraps = s.hostTraps := by
  simp [State.push32]

@[simp] theorem State.push32_draws (v : Long) : (s.push32 v).draws = s.draws := by
  simp [State.push32]

@[simp] theorem State.push32_config (v : Long) : (s.push32 v).config = s.config := by
  simp [State.push32]

@[simp] theorem State.push16_dreg (v : Word) (q : RegNo) : (s.push16 v).dreg q = s.dreg q := by
  simp [State.push16]

@[simp] theorem State.push16_usp (v : Word) : (s.push16 v).usp = s.usp := by
  simp [State.push16]

@[simp] theorem State.push16_ssp (v : Word) : (s.push16 v).ssp = s.ssp := by
  simp [State.push16]

@[simp] theorem State.push16_pc (v : Word) : (s.push16 v).pc = s.pc := by
  simp [State.push16]

@[simp] theorem State.push16_sr (v : Word) : (s.push16 v).sr = s.sr := by
  simp [State.push16]

@[simp] theorem State.push16_traceEnabled (v : Word) : (s.push16 v).traceEnabled = s.traceEnabled := by
  simp [State.push16]

@[simp] theorem State.push16_stopped (v : Word) : (s.push16 v).stopped = s.stopped := by
  simp [State.push16]

@[simp] theorem State.push16_irqPending (v : Word) : (s.push16 v).irqPending = s.irqPending := by
  simp [State.push16]

@[simp] theorem State.push16_irqSlots (v : Word) : (s.push16 v).irqSlots = s.irqSlots := by
  simp [State.push16]

@[simp] theorem State.push16_outcome (v : Word) : (s.push16 v).outcome = s.outcome := by
  simp [State.push16]

@[simp] theorem State.push16_hostInputs (v : Word) : (s.push16 v).hostInputs = s.hostInputs := by
  simp [State.push16]

@[simp] theorem State.push16_hostTraps (v : Word) : (s.push16 v).hostTraps = s.hostTraps := by
  simp [State.push16]

@[simp] theorem State.push16_draws (v : Word) : (s.push16 v).draws = s.draws := by
  simp [State.push16]

@[simp] theorem State.push16_config (v : Word) : (s.push16 v).config = s.config := by
  simp [State.push16]

/-! The exception entry up to its frame. -/

@[simp] theorem State.toSupervisor_dreg (q : RegNo) : (s.toSupervisor).dreg q = s.dreg q := by
  exact s.swapStacks_dreg true q

@[simp] theorem State.toSupervisor_pc : (s.toSupervisor).pc = s.pc := by
  simp [State.toSupervisor]

@[simp] theorem State.toSupervisor_traceEnabled : (s.toSupervisor).traceEnabled = s.traceEnabled := by
  simp [State.toSupervisor]

@[simp] theorem State.toSupervisor_stopped : (s.toSupervisor).stopped = s.stopped := by
  simp [State.toSupervisor]

@[simp] theorem State.toSupervisor_irqPending : (s.toSupervisor).irqPending = s.irqPending := by
  simp [State.toSupervisor]

@[simp] theorem State.toSupervisor_irqSlots : (s.toSupervisor).irqSlots = s.irqSlots := by
  simp [State.toSupervisor]

@[simp] theorem State.toSupervisor_outcome : (s.toSupervisor).outcome = s.outcome := by
  simp [State.toSupervisor]

@[simp] theorem State.toSupervisor_hostInputs : (s.toSupervisor).hostInputs = s.hostInputs := by
  simp [State.toSupervisor]

@[simp] theorem State.toSupervisor_hostTraps : (s.toSupervisor).hostTraps = s.hostTraps := by
  simp [State.toSupervisor]

@[simp] theorem State.toSupervisor_draws : (s.toSupervisor).draws = s.draws := by
  simp [State.toSupervisor]

@[simp] theorem State.toSupervisor_config : (s.toSupervisor).config = s.config := by
  simp [State.toSupervisor]

@[simp] theorem State.pushFrame_dreg (ra : Long) (q : RegNo) : (s.pushFrame ra).dreg q = s.dreg q := by
  simp [State.pushFrame]

@[simp] theorem State.pushFrame_pc (ra : Long) : (s.pushFrame ra).pc = s.pc := by
  simp [State.pushFrame]

@[simp] theorem State.pushFrame_traceEnabled (ra : Long) : (s.pushFrame ra).traceEnabled = s.traceEnabled := by
  simp [State.pushFrame]

@[simp] theorem State.pushFrame_stopped (ra : Long) : (s.pushFrame ra).stopped = s.stopped := by
  simp [State.pushFrame]

@[simp] theorem State.pushFrame_irqPending (ra : Long) : (s.pushFrame ra).irqPending = s.irqPending := by
  simp [State.pushFrame]

@[simp] theorem State.pushFrame_irqSlots (ra : Long) : (s.pushFrame ra).irqSlots = s.irqSlots := by
  simp [State.pushFrame]

@[simp] theorem State.pushFrame_outcome (ra : Long) : (s.pushFrame ra).outcome = s.outcome := by
  simp [State.pushFrame]

@[simp] theorem State.pushFrame_hostInputs (ra : Long) : (s.pushFrame ra).hostInputs = s.hostInputs := by
  simp [State.pushFrame]

@[simp] theorem State.pushFrame_hostTraps (ra : Long) : (s.pushFrame ra).hostTraps = s.hostTraps := by
  simp [State.pushFrame]

@[simp] theorem State.pushFrame_draws (ra : Long) : (s.pushFrame ra).draws = s.draws := by
  simp [State.pushFrame]

@[simp] theorem State.pushFrame_config (ra : Long) : (s.pushFrame ra).config = s.config := by
  simp [State.pushFrame]

@[simp] theorem State.toSupervisor_sr : s.toSupervisor.sr = { s.sr with s := true } := rfl

@[simp] theorem State.pushFrame_sr (ra : Long) : (s.pushFrame ra).sr = { s.sr with s := true } := by
  simp [State.pushFrame]

theorem State.toSupervisor_areg (q : RegNo) :
    s.toSupervisor.areg q =
      if q = spNo then (if s.sr.s = true then s.sp else s.ssp) else s.areg q :=
  s.swapStacks_areg true q

/-- The supervisor stack pointer at an entry (R36): `A[7]` in supervisor mode, the shadow in user mode. -/
theorem State.toSupervisor_sp : s.toSupervisor.sp = if s.sr.s = true then s.sp else s.ssp := by
  simp [State.sp, State.toSupervisor_areg]

theorem State.pushFrame_areg (ra : Long) (q : RegNo) :
    (s.pushFrame ra).areg q =
      if q = spNo then (if s.sr.s = true then s.sp else s.ssp) - 6#32 else s.areg q := by
  rw [State.pushFrame, State.push16_areg, State.push32_sp, State.push32_areg, State.toSupervisor_areg,
    State.toSupervisor_sp]
  by_cases h : q = spNo
  · simp only [h, if_true, BitVec.sub_sub]; rfl
  · simp [h]

@[simp] theorem State.toSupervisor_mem : s.toSupervisor.mem = s.mem := s.swapStacks_mem true

@[simp] theorem State.toSupervisor_events : s.toSupervisor.events = s.events := s.swapStacks_events true

theorem State.toSupervisor_usp : s.toSupervisor.usp = if s.sr.s = true then s.usp else s.areg spNo := by
  unfold State.toSupervisor State.swapStacks
  cases h : s.sr.s <;> simp [State.sp]

@[simp] theorem State.toSupervisor_ssp : s.toSupervisor.ssp = s.ssp := by
  unfold State.toSupervisor State.swapStacks
  cases h : s.sr.s <;> simp

theorem State.pushFrame_usp (ra : Long) :
    (s.pushFrame ra).usp = if s.sr.s = true then s.usp else s.areg spNo := by
  simp [State.pushFrame, State.toSupervisor_usp]

@[simp] theorem State.pushFrame_ssp (ra : Long) : (s.pushFrame ra).ssp = s.ssp := by
  simp [State.pushFrame]

end Sys2Proof.Machine
end

