-- ==== Sys2Proof/Laws/Operands.lean ====
section
/-! SUPPORT. What resolving an operand and writing a located operand can do, said once each. -/

namespace Sys2Proof.Machine

variable (s : State)

/-! Resolving an operand moves the program counter and, in modes 3 and 4, one address register. -/

@[simp] theorem afterLocate_dreg (ea : EA) (sz : Size) (q : RegNo) :
    (afterLocate ea sz s).dreg q = s.dreg q := by
  cases ea <;> rfl

@[simp] theorem afterLocate_usp (ea : EA) (sz : Size) : (afterLocate ea sz s).usp = s.usp := by
  cases ea <;> rfl

@[simp] theorem afterLocate_ssp (ea : EA) (sz : Size) : (afterLocate ea sz s).ssp = s.ssp := by
  cases ea <;> rfl

@[simp] theorem afterLocate_sr (ea : EA) (sz : Size) : (afterLocate ea sz s).sr = s.sr := by
  cases ea <;> rfl

@[simp] theorem afterLocate_traceEnabled (ea : EA) (sz : Size) : (afterLocate ea sz s).traceEnabled = s.traceEnabled := by
  cases ea <;> rfl

@[simp] theorem afterLocate_stopped (ea : EA) (sz : Size) : (afterLocate ea sz s).stopped = s.stopped := by
  cases ea <;> rfl

@[simp] theorem afterLocate_irqPending (ea : EA) (sz : Size) : (afterLocate ea sz s).irqPending = s.irqPending := by
  cases ea <;> rfl

@[simp] theorem afterLocate_irqSlots (ea : EA) (sz : Size) : (afterLocate ea sz s).irqSlots = s.irqSlots := by
  cases ea <;> rfl

@[simp] theorem afterLocate_mem (ea : EA) (sz : Size) : (afterLocate ea sz s).mem = s.mem := by
  cases ea <;> rfl

@[simp] theorem afterLocate_events (ea : EA) (sz : Size) : (afterLocate ea sz s).events = s.events := by
  cases ea <;> rfl

@[simp] theorem afterLocate_outcome (ea : EA) (sz : Size) : (afterLocate ea sz s).outcome = s.outcome := by
  cases ea <;> rfl

@[simp] theorem afterLocate_hostInputs (ea : EA) (sz : Size) : (afterLocate ea sz s).hostInputs = s.hostInputs := by
  cases ea <;> rfl

@[simp] theorem afterLocate_hostTraps (ea : EA) (sz : Size) : (afterLocate ea sz s).hostTraps = s.hostTraps := by
  cases ea <;> rfl

@[simp] theorem afterLocate_draws (ea : EA) (sz : Size) : (afterLocate ea sz s).draws = s.draws := by
  cases ea <;> rfl

@[simp] theorem afterLocate_config (ea : EA) (sz : Size) : (afterLocate ea sz s).config = s.config := by
  cases ea <;> rfl

/-- The extension words are consumed (R28, R102). -/
theorem afterLocate_pc (ea : EA) (sz : Size) :
    (afterLocate ea sz s).pc = s.pc + BitVec.ofNat 31 (ea.words sz) := by
  cases ea <;> simp [afterLocate, EA.words]

/-- The address register of modes 3 and 4 moves, no other does (R164, R165). -/
theorem afterLocate_areg (ea : EA) (sz : Size) (q : RegNo) :
    (afterLocate ea sz s).areg q =
      match ea with
      | .postInc r => if q = r then s.areg r + incOf sz r else s.areg q
      | .preDec r => if q = r then s.areg r - incOf sz r else s.areg q
      | _ => s.areg q := by
  cases ea <;> simp [afterLocate, State.setA_areg]

@[simp] theorem afterLocate_memRead (ea : EA) (sz z : Size) (a : Long) :
    (afterLocate ea sz s).memRead z a = s.memRead z a :=
  State.memRead_congr (afterLocate_mem s ea sz) (afterLocate_config s ea sz) z a

/-- Reading a located operand does not depend on the move of its address register. -/
theorem readOp_afterLocate (ea : EA) (sz : Size) :
    (afterLocate ea sz s).readOp (locate ea sz s) sz = s.readOp (locate ea sz s) sz := by
  cases ea <;> simp [State.readOp, locate, afterLocate]

/-! Writing a located operand changes that operand. -/

@[simp] theorem State.writeOp_usp (loc : Loc) (sz : Size) (v : Long) :
    (s.writeOp loc sz v).usp = s.usp := by
  cases loc <;> simp [State.writeOp]

@[simp] theorem State.writeOp_ssp (loc : Loc) (sz : Size) (v : Long) :
    (s.writeOp loc sz v).ssp = s.ssp := by
  cases loc <;> simp [State.writeOp]

@[simp] theorem State.writeOp_sr (loc : Loc) (sz : Size) (v : Long) :
    (s.writeOp loc sz v).sr = s.sr := by
  cases loc <;> simp [State.writeOp]

@[simp] theorem State.writeOp_traceEnabled (loc : Loc) (sz : Size) (v : Long) :
    (s.writeOp loc sz v).traceEnabled = s.traceEnabled := by
  cases loc <;> simp [State.writeOp]

@[simp] theorem State.writeOp_stopped (loc : Loc) (sz : Size) (v : Long) :
    (s.writeOp loc sz v).stopped = s.stopped := by
  cases loc <;> simp [State.writeOp]

@[simp] theorem State.writeOp_irqPending (loc : Loc) (sz : Size) (v : Long) :
    (s.writeOp loc sz v).irqPending = s.irqPending := by
  cases loc <;> simp [State.writeOp]

@[simp] theorem State.writeOp_irqSlots (loc : Loc) (sz : Size) (v : Long) :
    (s.writeOp loc sz v).irqSlots = s.irqSlots := by
  cases loc <;> simp [State.writeOp]

@[simp] theorem State.writeOp_outcome (loc : Loc) (sz : Size) (v : Long) :
    (s.writeOp loc sz v).outcome = s.outcome := by
  cases loc <;> simp [State.writeOp]

@[simp] theorem State.writeOp_hostInputs (loc : Loc) (sz : Size) (v : Long) :
    (s.writeOp loc sz v).hostInputs = s.hostInputs := by
  cases loc <;> simp [State.writeOp]

@[simp] theorem State.writeOp_hostTraps (loc : Loc) (sz : Size) (v : Long) :
    (s.writeOp loc sz v).hostTraps = s.hostTraps := by
  cases loc <;> simp [State.writeOp]

@[simp] theorem State.writeOp_draws (loc : Loc) (sz : Size) (v : Long) :
    (s.writeOp loc sz v).draws = s.draws := by
  cases loc <;> simp [State.writeOp]

@[simp] theorem State.writeOp_config (loc : Loc) (sz : Size) (v : Long) :
    (s.writeOp loc sz v).config = s.config := by
  cases loc <;> simp [State.writeOp]

@[simp] theorem State.writeOp_pc (loc : Loc) (sz : Size) (v : Long) :
    (s.writeOp loc sz v).pc = s.pc := by
  cases loc <;> simp [State.writeOp]

theorem State.writeOp_mem_dreg (r q : RegNo) (sz : Size) (v : Long) :
    (s.writeOp (.dreg r) sz v).dreg q = if q = r then merge sz (s.dreg r) v else s.dreg q :=
  s.mergeD_dreg sz r q v

/-! A `merge` by its bits: the low bits are the value's, the others the register's (R23). -/

theorem merge_getLsbD (sz : Size) (old v : Long) (i : Nat) :
    (merge sz old v).getLsbD i = if i < sizeBits sz then v.getLsbD i else old.getLsbD i := by
  by_cases hi : i < 32
  · cases sz <;> simp only [merge, trunc, sizeMask, sizeBits, BitVec.getLsbD_or, BitVec.getLsbD_and,
      BitVec.getLsbD_not] <;> interval_cases i <;> simp
  · rw [BitVec.getLsbD_of_ge _ _ (by omega), BitVec.getLsbD_of_ge _ _ (by omega),
      BitVec.getLsbD_of_ge _ _ (by omega)]
    simp

@[simp] theorem merge_l (old v : Long) : merge .l old v = v := by
  apply BitVec.eq_of_getLsbD_eq
  intro i hi
  rw [merge_getLsbD, if_pos (by simpa [sizeBits] using hi)]

theorem trunc_toNat (sz : Size) (v : Long) : (trunc sz v).toNat = v.toNat % 2 ^ sizeBits sz := by
  cases sz <;> simp only [trunc, sizeMask, sizeBits, BitVec.toNat_and, BitVec.toNat_ofNat]
  · exact Nat.and_two_pow_sub_one_eq_mod _ 8
  · exact Nat.and_two_pow_sub_one_eq_mod _ 16
  · exact Nat.and_two_pow_sub_one_eq_mod _ 32

theorem trunc_trunc (sz : Size) (v : Long) : trunc sz (trunc sz v) = trunc sz v := by
  apply BitVec.eq_of_toNat_eq; simp [trunc_toNat]

theorem merge_toNat (sz : Size) (old v : Long) :
    (merge sz old v).toNat = old.toNat / 2 ^ sizeBits sz * 2 ^ sizeBits sz + v.toNat % 2 ^ sizeBits sz := by
  have h : (merge sz old v).toNat =
      ((old.toNat >>> sizeBits sz) <<< sizeBits sz) ||| (v.toNat % 2 ^ sizeBits sz) := by
    apply Nat.eq_of_testBit_eq
    intro i
    have := merge_getLsbD sz old v i
    simp only [BitVec.getLsbD] at this
    rw [this, Nat.testBit_or, Nat.testBit_mod_two_pow, Nat.testBit_shiftLeft, Nat.testBit_shiftRight]
    by_cases hi : i < sizeBits sz
    · simp [hi]
    · simp [hi, Nat.sub_add_cancel (Nat.le_of_not_lt hi), Nat.le_of_not_lt hi, Nat.add_comm (sizeBits sz)]
  rw [h, Nat.shiftRight_eq_div_pow, Nat.shiftLeft_eq, Nat.mul_comm]
  exact (Nat.two_pow_add_eq_or_of_lt (Nat.mod_lt _ (by positivity)) _).symm

end Sys2Proof.Machine
end

