-- ==== Sys2Proof/Laws/Claims.lean ====
section
/-! SUPPORT. The words of the statements, tied to the operations of the model: what a resolved operand, a
store, a push, a frame and a flag function are in those words. The proofs of the statements cite these. -/

namespace Sys2Proof.Laws

open Sys2Proof.Machine Sys2Proof.Claims

/-! The system state. -/

theorem keepsSystem_refl (s : State) : KeepsSystem s s := by constructor <;> rfl

theorem keepsSystem_trans {s t u : State} (h : KeepsSystem s t) (k : KeepsSystem t u) : KeepsSystem s u := by
  cases h; cases k; constructor <;> simp_all

theorem keepsSystem_afterLocate (ea : EA) (sz : Size) (s : State) : KeepsSystem s (afterLocate ea sz s) := by
  constructor <;> simp

theorem keepsSystem_writeOp (l : Loc) (sz : Size) (v : Long) (s : State) :
    KeepsSystem s (s.writeOp l sz v) := by
  constructor <;> simp

theorem keepsSystem_setFlags (f : Flags) (s : State) : KeepsSystem s (s.setFlags f) := by
  constructor <;> simp

theorem cellIndex_add (a : CellIndex) (m n : Nat) :
    a + BitVec.ofNat 31 m + BitVec.ofNat 31 n = a + BitVec.ofNat 31 (m + n) := by
  rw [BitVec.add_assoc, ← BitVec.ofNat_add]

/-! Resolved operands (R164, R165, R180). -/

theorem incOf_eq_modeStep (sz : Size) (r : RegNo) : incOf sz r = modeStep sz r := by
  cases sz <;> simp [incOf, modeStep, sizeStep, sizeBytes, spNo]

theorem afterLocate_areg_movedA (ea : EA) (sz : Size) (s : State) (q : RegNo) :
    (afterLocate ea sz s).areg q = movedA ea sz s q := by
  rw [afterLocate_areg]
  cases ea <;> simp [movedA, incOf_eq_modeStep]

/-- What resolving and reading a source operand leaves. -/
theorem afterSource_afterLocate (ea : EA) (sz : Size) (s : State) :
    AfterSource ea sz s (afterLocate ea sz s) where
  quiet := ⟨keepsSystem_afterLocate .., by simp⟩
  flags := by simp [KeepsFlags]
  d     := by simp [KeepsD]
  a     := afterLocate_areg_movedA ea sz s
  mem   := by simp [KeepsMemory]
  pc    := afterLocate_pc ..

/-- A control operand is an address; resolving it only consumes its words. -/
theorem locate_control {ea : EA} {s : State} (h : Category.member .control ea = true) :
    ∃ a, locate ea .l s = .mem a ∧ (∀ q, movedA ea .l s q = s.areg q)
      ∧ afterLocate ea .l s = s.consume (ea.words .l) := by
  cases ea <;> simp [Category.member, locate, movedA, afterLocate, EA.words, State.consume] at *

/-! Numbers. -/

theorem uval_lt (sz : Size) (v : Long) : uval sz v < 2 ^ sizeBits sz := Nat.mod_lt _ (by positivity)

theorem uval_trunc (sz : Size) (v : Long) : uval sz (trunc sz v) = uval sz v := by
  simp [uval, trunc_toNat]

theorem sval_trunc (sz : Size) (v : Long) : sval sz (trunc sz v) = sval sz v := by
  simp [sval, uval_trunc]

theorem uval_l (v : Long) : uval .l v = v.toNat := by
  have := v.isLt
  simp [uval, sizeBits]; omega

theorem msbOf_iff (sz : Size) (v : Long) : msbOf sz v = true ↔ 2 ^ (sizeBits sz - 1) ≤ uval sz v := by
  cases sz <;> simp only [msbOf, sizeBits, uval, BitVec.getLsbD, Nat.testBit_eq_decide_div_mod_eq] <;>
    simp <;> omega

theorem msbOf_trunc (sz : Size) (v : Long) : msbOf sz (trunc sz v) = msbOf sz v := by
  rw [Bool.eq_iff_iff, msbOf_iff, msbOf_iff, uval_trunc]

theorem sext_toInt (sz : Size) (v : Long) : (sext sz v).toInt = sval sz v := by
  have := v.isLt
  cases sz <;> simp only [sext, sval, uval, sizeBits]
  · rw [BitVec.toInt_signExtend_of_le (by omega), BitVec.toInt_eq_toNat_cond]; simp; split_ifs <;> omega
  · rw [BitVec.toInt_signExtend_of_le (by omega), BitVec.toInt_eq_toNat_cond]; simp; split_ifs <;> omega
  · rw [BitVec.toInt_eq_toNat_cond]; simp; split_ifs <;> omega

theorem trunc_add_right (sz : Size) (a b : Long) : trunc sz (a + trunc sz b) = trunc sz (a + b) := by
  apply BitVec.eq_of_toNat_eq; simp [trunc_toNat]; cases sz <;> simp [sizeBits]

theorem trunc_add_left (sz : Size) (a b : Long) : trunc sz (trunc sz a + b) = trunc sz (a + b) := by
  apply BitVec.eq_of_toNat_eq; simp [trunc_toNat]; cases sz <;> simp [sizeBits]

theorem trunc_sub_right (sz : Size) (a b : Long) : trunc sz (a - trunc sz b) = trunc sz (a - b) := by
  apply BitVec.eq_of_toNat_eq; simp [trunc_toNat, BitVec.toNat_sub]; cases sz <;> simp [sizeBits] <;> omega

theorem trunc_sub_left (sz : Size) (a b : Long) : trunc sz (trunc sz a - b) = trunc sz (a - b) := by
  apply BitVec.eq_of_toNat_eq; simp [trunc_toNat, BitVec.toNat_sub]; cases sz <;> simp [sizeBits]

theorem trunc_add_toNat (sz : Size) (s d : Long) :
    (trunc sz (trunc sz d + trunc sz s)).toNat = sumOf sz s d false % 2 ^ sizeBits sz := by
  simp [trunc_toNat, sumOf, uval]
  cases sz <;> simp [sizeBits]

theorem trunc_sub_toNat (sz : Size) (s d : Long) :
    (trunc sz (trunc sz d - trunc sz s)).toNat = differenceOf sz s d false % 2 ^ sizeBits sz := by
  simp [trunc_toNat, differenceOf, uval, BitVec.toNat_sub]
  cases sz <;> simp [sizeBits] <;> omega

theorem zero_iff_mod (r : Long) (n m : Nat) (h : r.toNat = n % m) : r = 0#32 ↔ n % m = 0 := by
  rw [← h]
  constructor
  · rintro rfl; rfl
  · intro h; exact BitVec.eq_of_toNat_eq (by simpa using h)

/-- A value read from an operand fits its size, but for an immediate that is written too wide. -/
theorem trunc_operand (ea : EA) (sz : Size) (s : State) (h : ea.wf sz = true) :
    trunc sz (operand ea sz s) = operand ea sz s := by
  have hm : ∀ a, trunc sz (s.memRead sz a) = s.memRead sz a := by
    intro a
    apply BitVec.eq_of_toNat_eq
    rw [trunc_toNat]
    apply Nat.mod_eq_of_lt
    simp only [State.memRead]
    split
    · cases sz
      · exact lt_of_eq_of_lt (BitVec.toNat_setWidth_of_le (by omega)) (BitVec.isLt _)
      · exact lt_of_eq_of_lt (BitVec.toNat_setWidth_of_le (by omega)) (BitVec.isLt _)
      · exact BitVec.isLt _
    · exact Nat.two_pow_pos _
  cases ea <;> simp [operand, State.readOp, locate, trunc_trunc, hm]
  apply BitVec.eq_of_toNat_eq
  rw [trunc_toNat]
  apply Nat.mod_eq_of_lt
  cases sz <;> simp [EA.wf, sizeBits] at * <;> omega

/-! Flags (R191 to R196, R205). -/

theorem carryFlags_flagsAdd (sz : Size) (s d : Long) (x : Bool) (r : Long)
    (hr : r.toNat = sumOf sz s d x % 2 ^ sizeBits sz) :
    CarryFlags sz s d x (flagsAdd sz (trunc sz s) (trunc sz d) r) := by
  have hs := uval_lt sz s
  have hd := uval_lt sz d
  have ms := msbOf_iff sz (trunc sz s)
  have md := msbOf_iff sz (trunc sz d)
  have mr := msbOf_iff sz r
  rw [uval_trunc] at ms md
  have hru : uval sz r = sumOf sz s d x % 2 ^ sizeBits sz := by rw [uval, hr, Nat.mod_mod]
  have hz : r = 0#32 ↔ uval sz r = 0 := by rw [hru]; exact zero_iff_mod _ _ _ hr
  rw [hru] at mr hz
  simp only [CarryFlags, flagsAdd, carryAdd, overflowAdd, sval, signedOverflow, sumOf] at *
  have hx : x.toNat ≤ 1 := by cases x <;> simp
  generalize x.toNat = xn at *
  generalize uval sz s = us at *
  generalize uval sz d = ud at *
  revert ms md mr hz
  generalize msbOf sz (trunc sz s) = sm
  generalize msbOf sz (trunc sz d) = dm
  generalize msbOf sz r = rm
  intro ms md mr hz
  cases sz <;> cases sm <;> cases dm <;> cases rm <;> by_cases h0 : r = 0#32 <;>
    simp [sizeBits, h0] at * <;> refine ⟨?_, ?_, ?_⟩ <;> omega

/-- Borrow and overflow of a subtraction from the sign bits, for any modulus `2h` (R192). -/
theorem borrow_of_signs (h us ud xn ur : Nat) (sm dm rm : Bool) (hs : us < 2 * h) (hd : ud < 2 * h)
    (hx : xn ≤ 1) (hu : ur < 2 * h) (hr : ur + us + xn = ud ∨ ur + us + xn = ud + 2 * h)
    (ms : sm = true ↔ h ≤ us) (md : dm = true ↔ h ≤ ud) (mr : rm = true ↔ h ≤ ur) :
    (carrySub sm dm rm = true ↔ ud < us + xn)
    ∧ (overflowSub sm dm rm = true ↔
        (if ud < h then (ud : Int) else ud - 2 * h) - (if us < h then (us : Int) else us - 2 * h) - xn < -h
        ∨ h ≤ (if ud < h then (ud : Int) else ud - 2 * h)
            - (if us < h then (us : Int) else us - 2 * h) - xn) := by
  cases sm <;> cases dm <;> cases rm <;> simp [carrySub, overflowSub] at * <;>
    constructor <;> (try split_ifs) <;> omega

theorem two_pow_sizeBits (sz : Size) : 2 ^ sizeBits sz = 2 * 2 ^ (sizeBits sz - 1) := by
  cases sz <;> rfl

theorem borrowFlags_flagsSub (sz : Size) (s d : Long) (x : Bool) (r : Long)
    (hr : r.toNat = differenceOf sz s d x % 2 ^ sizeBits sz) :
    BorrowFlags sz s d x (flagsSub sz (trunc sz s) (trunc sz d) r) := by
  have hs := uval_lt sz s
  have hd := uval_lt sz d
  have hx : x.toNat ≤ 1 := by cases x <;> simp
  have ms := msbOf_iff sz (trunc sz s)
  have md := msbOf_iff sz (trunc sz d)
  have mr := msbOf_iff sz r
  rw [uval_trunc] at ms md
  have hu := uval_lt sz r
  have hru : uval sz r = differenceOf sz s d x % 2 ^ sizeBits sz := by rw [uval, hr, Nat.mod_mod]
  have hz : r = 0#32 ↔ uval sz r = 0 := by rw [hru]; exact zero_iff_mod _ _ _ hr
  have hd2 : uval sz r + uval sz s + x.toNat = uval sz d
      ∨ uval sz r + uval sz s + x.toNat = uval sz d + 2 ^ sizeBits sz := by
    rw [hru, differenceOf]
    cases sz <;> simp only [sizeBits] at * <;> omega
  rw [two_pow_sizeBits] at hs hd hu hd2
  obtain ⟨h1, h2⟩ := borrow_of_signs _ _ _ _ _ _ _ _ hs hd hx hu hd2 ms md mr
  refine ⟨h1, ?_, ?_⟩
  · have e : (2 : Int) ^ sizeBits sz = 2 * (2 ^ (sizeBits sz - 1) : Int) := by cases sz <;> rfl
    simp only [signedOverflow, sval, e]
    simpa [flagsSub] using h2
  · show (!decide (r = 0#32) && msbOf sz r) = true ↔ _
    rw [← differenceOf, ← hru, ← mr]
    have hp := Nat.two_pow_pos (sizeBits sz - 1)
    by_cases h0 : r = 0#32
    · have := hz.mp h0
      simp [h0] at mr ⊢
      simp [uval] at mr
      cases sz <;> simp [msbOf]
    · simp [h0]

theorem addFlags_flagsAdd (sz : Size) (s d : Long) :
    AddFlags sz s d (flagsAdd sz s d (trunc sz (d + s))) := by
  have h : AddFlags sz s d
      (flagsAdd sz (trunc sz s) (trunc sz d) (trunc sz (trunc sz d + trunc sz s))) := by
    refine ⟨carryFlags_flagsAdd sz s d false _ (trunc_add_toNat ..), ?_⟩
    simp only [flagsAdd, decide_eq_true_eq, ZeroAt]
    exact zero_iff_mod _ _ _ (trunc_add_toNat ..)
  simpa [flagsAdd, msbOf_trunc, trunc_add_right, trunc_add_left] using h

theorem subFlags_flagsSub (sz : Size) (s d : Long) :
    SubFlags sz s d (flagsSub sz s d (trunc sz (d - s))) := by
  have h : SubFlags sz s d
      (flagsSub sz (trunc sz s) (trunc sz d) (trunc sz (trunc sz d - trunc sz s))) := by
    refine ⟨borrowFlags_flagsSub sz s d false _ (trunc_sub_toNat ..), rfl, ?_⟩
    simp only [flagsSub, decide_eq_true_eq, ZeroAt]
    exact zero_iff_mod _ _ _ (trunc_sub_toNat ..)
  simpa [flagsSub, msbOf_trunc, trunc_sub_right, trunc_sub_left] using h

theorem logicFlags_flagsLogic (sz : Size) (old : Flags) (v : Long) :
    LogicFlags sz v.toNat old (flagsLogic old sz v) := by
  refine ⟨msbOf_iff sz v, ?_, rfl, rfl, rfl⟩
  simp only [flagsLogic, decide_eq_true_eq, ZeroAt]
  exact zero_iff_mod _ _ _ (trunc_toNat ..)

theorem condTrue_iff (k : Cond) (f : Flags) : CondTrue k f ↔ k.holds f = true := by
  cases k <;> simp [CondTrue, Cond.holds]

/-! Stores (R69 to R72, R178, R179). -/

/-- What one store does, in the words of the statements. -/
theorem stores_memWrite (sz : Size) (a v : Long) (s : State) : Stores sz a v.toNat s (s.memWrite sz a v) := by
  refine ⟨?_, ?_, ?_, ?_⟩
  · intro h
    simp only [State.memWrite, h, if_true]
    rw [readBytes_putBytes, trunc_toNat]
  · intro x hx
    exact State.memWrite_get_outside s sz a v x hx
  · intro h x
    rw [State.memWrite_dropped s sz a v h]
  · simp only [State.memWrite, screenEvents]
    by_cases h : s.writable sz a = true <;> simp [h]
    split <;> simp
    apply BitVec.eq_of_toNat_eq
    rw [trunc_toNat]; simp
    have := v.isLt
    cases sz <;> simp [sizeBits] <;> omega

theorem stores_congr {sz : Size} {a : Long} {v w : Nat} {s t : State}
    (h : v % 2 ^ sizeBits sz = w % 2 ^ sizeBits sz) (k : Stores sz a v s t) : Stores sz a w s t := by
  simpa [Stores, h] using k

/-- A store reads only the memory, the events and the configuration. -/
theorem stores_of_eq {sz : Size} {a : Long} {v : Nat} {s t s' t' : State} (h : Stores sz a v s t)
    (hc : s'.config = s.config) (hm : s'.mem = s.mem) (he : s'.events = s.events) (ht : t'.mem = t.mem)
    (hte : t'.events = t.events) : Stores sz a v s' t' := by
  unfold Stores State.writable at *
  rw [hc, hm, he, ht, hte]; exact h

theorem stores_memRead {sz : Size} {a : Long} {v : Nat} {s t : State} (h : Stores sz a v s t)
    (hw : s.writable sz a = true) (hc : t.config = s.config)
    (hm : s.config.totalRamSize ≤ s.config.totalMemSize) :
    (t.memRead sz a).toNat = v % 2 ^ sizeBits sz := by
  have := h.1 hw
  simp only [State.memRead, hc]
  rw [if_pos, this]
  simp [State.writable] at hw; omega

theorem stores_memRead_other {sz : Size} {a : Long} {v : Nat} {s t : State} (h : Stores sz a v s t)
    (hc : t.config = s.config) (z : Size) (b : Long)
    (hd : accessAddr s.config z b + sizeBytes z ≤ accessAddr s.config sz a
      ∨ accessAddr s.config sz a + sizeBytes sz ≤ accessAddr s.config z b) :
    t.memRead z b = s.memRead z b := by
  simp only [State.memRead, hc]
  congr 1
  apply readBytes_congr
  intro x hx hx2
  refine h.2.1 _ ?_
  rcases hd with hd | hd
  · left; omega
  · right; omega

theorem mergedNat_congr {sz : Size} {old : Long} {v w : Nat}
    (h : v % 2 ^ sizeBits sz = w % 2 ^ sizeBits sz) : mergedNat sz old v = mergedNat sz old w := by
  simp [mergedNat, h]

/-- A write through a resolved data-alterable operand: one field after the other of the state it leaves is
enough. -/
theorem writes_writeOp (ea : EA) (sz : Size) (v : Long) (n : Nat) (s t : State)
    (hn : v.toNat % 2 ^ sizeBits sz = n % 2 ^ sizeBits sz)
    (hw : Category.member .dataalt ea = true)
    (hd : ∀ q, t.dreg q = ((afterLocate ea sz s).writeOp (locate ea sz s) sz v).dreg q)
    (ha : ∀ q, t.areg q = ((afterLocate ea sz s).writeOp (locate ea sz s) sz v).areg q)
    (hm : t.mem = ((afterLocate ea sz s).writeOp (locate ea sz s) sz v).mem)
    (he : t.events = ((afterLocate ea sz s).writeOp (locate ea sz s) sz v).events) :
    Writes ea sz n s t := by
  have key : ∀ a, locate ea sz s = .mem a →
      (∀ q, t.dreg q = s.dreg q) ∧ (∀ q, t.areg q = movedA ea sz s q) ∧ Stores sz a n s t := by
    intro a h
    rw [h] at hd ha hm he
    simp only [State.writeOp] at hd ha hm he
    refine ⟨fun q => ?_, fun q => ?_, ?_⟩
    · rw [hd]; simp
    · rw [ha]; simp [afterLocate_areg_movedA]
    · have := stores_memWrite sz a v (afterLocate ea sz s)
      apply stores_congr hn
      simp only [Stores, afterLocate_config, State.writable, afterLocate_mem, afterLocate_events] at this ⊢
      rw [hm, he]
      exact this
  cases ea with
  | dn r =>
    refine ⟨⟨?_, ?_⟩, ?_, ?_⟩
    · rw [hd]; simp [locate, afterLocate, State.writeOp, State.mergeD]; rw [merge_toNat]
      simp [mergedNat, hn]
    · intro q hq; rw [hd]; simp [locate, afterLocate, State.writeOp, State.mergeD]
      simp [State.setD_dreg, hq]
    · intro q; rw [ha]; simp [locate, afterLocate, State.writeOp, State.mergeD]
    · constructor
      · intro x; rw [hm]; simp [locate, afterLocate, State.writeOp, State.mergeD]
      · rw [he]; simp [locate, afterLocate, State.writeOp, State.mergeD]
  | an r => simp [Category.member] at hw
  | imm r => simp [Category.member] at hw
  | pcDisp r => simp [Category.member] at hw
  | pcIndex r => simp [Category.member] at hw
  | ind r => exact key _ rfl
  | postInc r => exact key _ rfl
  | preDec r => exact key _ rfl
  | disp r d => exact key _ rfl
  | index r d => exact key _ rfl
  | absW d => exact key _ rfl
  | absL d => exact key _ rfl

theorem pushesLong_push32 (v : Long) (s : State) : PushesLong v s (s.push32 v) := by
  refine ⟨by simp [KeepsD], ?_, ?_⟩
  · intro q; rw [State.push32_areg]; rfl
  · exact stores_memWrite .l _ v (s.setSp (s.sp - 4#32))

theorem setX_xreg (s : State) (x q : XRegNo) (v : Long) :
    (s.setX x v).xreg q = if q = x then v else s.xreg q := by
  simp only [State.setX, State.xreg]
  split <;> split <;> simp [State.setD_dreg, State.setA_areg, Fin.ext_iff] <;>
    first | (intro h; omega) | (split_ifs <;> first | rfl | omega)

/-! Exception entries (R425, R428, R431). -/

theorem stackBase_eq (s : State) : stackBase s = if s.sr.s = true then s.sp else s.ssp := rfl

theorem toSupervisor_sp_stackBase (s : State) : s.toSupervisor.sp = stackBase s :=
  State.toSupervisor_areg s 7

/-- The two stores of a frame. -/
theorem pushFrame_stores (ra : Long) (s : State) : ∃ m : State, m.config = s.config
    ∧ Stores .l (stackBase s - 4#32) ra.toNat s m
    ∧ Stores .w (stackBase s - 6#32) s.sr.toWord.toNat m (s.pushFrame ra) := by
  refine ⟨s.toSupervisor.push32 ra, by simp, ?_, ?_⟩
  · have := stores_memWrite .l (s.toSupervisor.sp - 4#32) ra (s.toSupervisor.setSp (s.toSupervisor.sp - 4#32))
    rw [toSupervisor_sp_stackBase] at this
    exact stores_of_eq this (by simp) (by simp) (by simp)
      (by rw [State.push32, toSupervisor_sp_stackBase]) (by rw [State.push32, toSupervisor_sp_stackBase])
  · have e : (s.toSupervisor.push32 ra).sp = stackBase s - 4#32 := by
      rw [State.push32_sp]; simp [toSupervisor_sp_stackBase]
    have e2 : stackBase s - 4#32 - 2#32 = stackBase s - 6#32 := by rw [BitVec.sub_sub]; rfl
    have := stores_memWrite .w ((s.toSupervisor.push32 ra).sp - 2#32) (s.sr.toWord.setWidth 32)
      ((s.toSupervisor.push32 ra).setSp ((s.toSupervisor.push32 ra).sp - 2#32))
    rw [e, e2] at this
    simp at this
    refine stores_of_eq (stores_congr ?_ this) rfl rfl rfl ?_ ?_
    · have := s.sr.toWord.isLt; simp [sizeBits]
    · simp [State.pushFrame, State.push16, e, e2]
    · simp [State.pushFrame, State.push16, e, e2]

/-- The state of a generic entry before it reads its vector. -/
theorem entered_entryState (s : State) : Entered s.pcb true s s.entryState := by
  constructor
  · intro q; exact State.pushFrame_dreg s s.pcb q
  · exact (State.pushFrame_areg s s.pcb 7).trans (by simp [spNo, stackBase_eq])
  · intro q h; exact (State.pushFrame_areg s s.pcb q).trans (by simp [spNo, h])
  · exact (State.pushFrame_usp s s.pcb).trans (by simp [spNo])
  · exact (State.pushFrame_ssp s s.pcb)
  · rfl
  · rfl
  · rfl
  · rfl
  · rfl
  · rfl
  · exact State.pushFrame_pc s s.pcb
  · constructor <;> simp [State.entryState]
  · obtain ⟨m, h1, h2, h3⟩ := pushFrame_stores s.pcb s
    exact ⟨m, h1, h2, stores_of_eq h3 rfl rfl rfl rfl rfl⟩

/-- The state of the privilege path before it reads its vector. -/
theorem entered_privilegeState (s : State) : Entered s.opaddr false s s.privilegeState := by
  constructor
  · intro q; exact State.pushFrame_dreg s s.opaddr q
  · exact (State.pushFrame_areg s s.opaddr 7).trans (by simp [spNo, stackBase_eq])
  · intro q h; exact (State.pushFrame_areg s s.opaddr q).trans (by simp [spNo, h])
  · exact (State.pushFrame_usp s s.opaddr).trans (by simp [spNo])
  · exact (State.pushFrame_ssp s s.opaddr)
  · simp [State.privilegeState]
  · simp [State.privilegeState]
  · simp [State.privilegeState]
  · simp [State.privilegeState, KeepsFlags]
  · simp [State.privilegeState]
  · simp [State.privilegeState]
  · exact State.pushFrame_pc s s.opaddr
  · constructor <;> simp [State.privilegeState]
  · obtain ⟨m, h1, h2, h3⟩ := pushFrame_stores s.opaddr s
    exact ⟨m, h1, h2, stores_of_eq h3 rfl rfl rfl rfl rfl⟩

theorem vectorOf_eq (v : Nat) (u : State) : vectorOf v u = u.vectorTarget v := rfl

/-! Program counter (R25, R29). -/

theorem pcb_toNat (s : State) : s.pcb.toNat = 2 * s.pc.toNat := by
  show (s.pc ++ 0#1).toNat = _
  rw [BitVec.toNat_append]
  simp [Nat.shiftLeft_eq]; omega

theorem goesTo_setPc (s : State) (t : Long) (n : Int) (h : (t.toNat : Int) = n % 2 ^ 32) :
    GoesTo n (s.setPc t) := by
  have := t.isLt
  simp [GoesTo, State.setPc, BitVec.extractLsb'_toNat, Nat.shiftRight_eq_div_pow]
  omega

/-! The decimal core (R265), for every two bytes. -/

theorem low_digit (n : Nat) : n &&& 0x0F = n % 16 := Nat.and_two_pow_sub_one_eq_mod n 4

theorem high_digit (n : Nat) (h : n < 256) : n &&& 0xF0 = n / 16 * 16 := by
  apply Nat.eq_of_testBit_eq
  intro i
  rw [Nat.testBit_and, show (0xF0 : Nat) = (2 ^ 4 - 1) * 2 ^ 4 by rfl, show n / 16 = n / 2 ^ 4 by rfl,
    show (16 : Nat) = 2 ^ 4 by rfl, Nat.testBit_mul_two_pow, Nat.testBit_mul_two_pow, Nat.testBit_div_two_pow,
    Nat.testBit_two_pow_sub_one]
  by_cases h4 : 4 ≤ i
  · by_cases h8 : i < 8
    · simp [h4, show i - 4 + 4 = i by omega, show i - 4 < 4 by omega]
    · have : n.testBit i = false := Nat.testBit_lt_two_pow (h.trans_le (Nat.pow_le_pow_right (n := 2) (i := 8) (by omega) (by omega)))
      simp [h4, show i - 4 + 4 = i by omega, this]
  · simp [h4]

theorem bcdAdds_bcdAdd (s d : Nat) (x : Bool) (hs : s < 256) (hd : d < 256) : BcdAdds s d x (bcdAdd s d x) := by
  unfold BcdAdds bcdAddTotal bcdLowSum bcdAdd
  simp only [low_digit, high_digit, hs, hd]
  generalize x.toNat = c
  split_ifs <;> constructor <;> simp <;> omega

theorem bcdSubs_bcdSub (s d : Nat) (x : Bool) (hs : s < 256) (hd : d < 256) : BcdSubs s d x (bcdSub s d x) := by
  unfold BcdSubs bcdSubTotal bcdLowDifference bcdSub
  simp only [low_digit, high_digit, hs, hd]
  generalize x.toNat = c
  split_ifs <;> constructor <;> simp <;> omega

/-- A byte read from an operand is below 256. -/
theorem operand_byte_lt (ea : EA) (s : State) (h : ea.wf .b = true) : (operand ea .b s).toNat < 256 := by
  rw [← trunc_operand ea .b s h, trunc_toNat]
  exact Nat.mod_lt _ (by decide)

end Sys2Proof.Laws
end

