-- ==== Sys2Proof/Laws/Float.lean ====
section
/-! SUPPORT. The constraint of R395 on the mathematics library can be met: every real number in the range of
binary64 has a binary64 number within 1 ulp, so COS, SIN and TAN have accurate libraries. -/

namespace Sys2Proof.Machine

/-! The fields of a pattern built from a sign and 63 bits. -/

theorem signed_fraction (neg : Bool) (v : BitVec 63) :
    ((BitVec.ofBool neg ++ v).extractLsb' 0 52).toNat = v.toNat % 2 ^ 52 := by
  have : (BitVec.ofBool neg ++ v).extractLsb' 0 52 = v.extractLsb' 0 52 := by
    apply BitVec.eq_of_getLsbD_eq
    intro i hi
    rw [BitVec.getLsbD_extractLsb', BitVec.getLsbD_extractLsb', BitVec.getLsbD_append,
      if_pos (show 0 + i < 63 by omega)]
  rw [this, BitVec.extractLsb'_toNat, Nat.shiftRight_zero]

theorem signed_exponent (neg : Bool) (v : BitVec 63) :
    ((BitVec.ofBool neg ++ v).extractLsb' 52 11).toNat = v.toNat / 2 ^ 52 := by
  have : (BitVec.ofBool neg ++ v).extractLsb' 52 11 = v.extractLsb' 52 11 := by
    apply BitVec.eq_of_getLsbD_eq
    intro i hi
    rw [BitVec.getLsbD_extractLsb', BitVec.getLsbD_extractLsb', BitVec.getLsbD_append,
      if_pos (show 52 + i < 63 by omega)]
  rw [this, BitVec.extractLsb'_toNat, Nat.shiftRight_eq_div_pow]
  exact Nat.mod_eq_of_lt (by have := v.isLt; omega)

theorem signed_sign (neg : Bool) (v : BitVec 63) : (BitVec.ofBool neg ++ v).getLsbD 63 = neg := by
  rw [BitVec.getLsbD_append, if_neg (by decide)]
  cases neg <;> rfl

/-- The parts of a pattern built from a sign and the number `x * 2^52 + f`. -/
theorem unpack_fields (neg : Bool) (x f : Nat) (hx : x < 2047) (hf : f < 2 ^ 52) :
    unpack (BitVec.ofBool neg ++ BitVec.ofNat 63 (x * 2 ^ 52 + f)) =
      if x = 0 then .num neg f (-1074) else .num neg (f + 2 ^ 52) ((x : Int) - 1075) := by
  have hv : (BitVec.ofNat 63 (x * 2 ^ 52 + f)).toNat = x * 2 ^ 52 + f :=
    (BitVec.toNat_ofNat _ _).trans (Nat.mod_eq_of_lt (by omega))
  have h1 : (x * 2 ^ 52 + f) / 2 ^ 52 = x := by omega
  have h2 : (x * 2 ^ 52 + f) % 2 ^ 52 = f := by omega
  unfold unpack
  rw [signed_exponent, signed_fraction, signed_sign, hv, h1, h2, if_neg (by omega)]

/-- The parts of an assembled pattern, for a significand that fits its place. -/
theorem unpack_assemble (neg : Bool) (q n : Nat) (hq : q < 2 ^ 53) (hn : n ≤ 2045)
    (h : 2 ^ 52 ≤ q ∨ n = 0) : unpack (assemble neg q ((n : Int) - 1074)) = .num neg q ((n : Int) - 1074) := by
  have hk : ((n : Int) - 1074 + 1074).toNat = n := by omega
  unfold assemble
  rw [hk, if_neg (by omega)]
  by_cases hs : 2 ^ 52 ≤ q
  · have : n * 2 ^ 52 + q = (n + 1) * 2 ^ 52 + (q - 2 ^ 52) := by omega
    rw [this, unpack_fields neg (n + 1) (q - 2 ^ 52) (by omega) (by omega), if_neg (by omega)]
    rw [Nat.sub_add_cancel hs, show ((n + 1 : Nat) : Int) - 1075 = n - 1074 by omega]
  · obtain rfl : n = 0 := by omega
    rw [unpack_fields neg 0 q (by omega) (by omega), if_pos rfl]
    rfl

/-- A pattern stands for one number. -/
theorem isReal_unique {y : Double} {r r' : ℝ} (h : isReal y r) (h' : isReal y r') : r = r' := by
  obtain ⟨n, m, e, hu, rfl⟩ := h
  obtain ⟨n', m', e', hu', rfl⟩ := h'
  rw [hu] at hu'
  cases hu'
  rfl

/-- A power of two times the weight of the last bit. -/
theorem pow_mul_weight (j n : Nat) : ((2 ^ j : Nat) : ℝ) * 2 ^ ((n : Int) - 1074) = 2 ^ ((n : Int) + j - 1074) := by
  rw [Nat.cast_pow, Nat.cast_ofNat, ← zpow_natCast (2 : ℝ) j, ← zpow_add₀ two_ne_zero]
  congr 1
  omega

/-- Cut a magnitude to a significand of weight `2^(n-1074)`. -/
theorem exists_near (neg : Bool) (v : ℝ) (n : Nat) (hv : |v| < 2 ^ ((n : Int) - 1021)) (hn : n ≤ 2045)
    (h : (2 : ℝ) ^ ((n : Int) - 1022) ≤ |v| ∨ n = 0) (hneg : v = if neg then -|v| else |v|) :
    ∃ y r, isReal y r ∧ |r - v| ≤ 2 ^ ((n : Int) - 1074) := by
  have e53 := pow_mul_weight 53 n
  have e52 := pow_mul_weight 52 n
  rw [show (n : Int) + (53 : Nat) - 1074 = n - 1021 by omega] at e53
  rw [show (n : Int) + (52 : Nat) - 1074 = n - 1022 by omega] at e52
  have hp : (0 : ℝ) < 2 ^ ((n : Int) - 1074) := by positivity
  generalize hu : (2 : ℝ) ^ ((n : Int) - 1074) = p at *
  have h0 : 0 ≤ |v| / p := by positivity
  have hlow := (le_div_iff₀ hp).mp (Nat.floor_le h0)
  have hhigh := (div_lt_iff₀ hp).mp (Nat.lt_floor_add_one (|v| / p))
  have hq : ⌊|v| / p⌋₊ < 2 ^ 53 := by rwa [Nat.floor_lt h0, div_lt_iff₀ hp, e53]
  have hq' : 2 ^ 52 ≤ ⌊|v| / p⌋₊ ∨ n = 0 :=
    h.imp_left fun h => by rwa [Nat.le_floor_iff h0, le_div_iff₀ hp, e52]
  generalize ⌊|v| / p⌋₊ = q at *
  refine ⟨_, _, ⟨neg, q, _, unpack_assemble neg q n hq hn hq', rfl⟩, ?_⟩
  rw [hu, hneg, abs_le]
  cases neg <;> simp [signedMant] <;> constructor <;> linarith

/-- Every real number has a binary64 pattern within 1 ulp (R395). -/
theorem exists_withinUlp (v : ℝ) : ∃ y, withinUlp v y := by
  by_cases hv : |v| < 2 ^ (1024 : Int)
  swap
  · exact ⟨dNaN, fun h => absurd h hv⟩
  have hneg : v = if decide (v < 0) then -|v| else |v| := by
    by_cases h : v < 0
    · simp [h, abs_of_neg h]
    · simp [h, abs_of_nonneg (not_lt.mp h)]
  obtain ⟨n, h1, h2, h3⟩ : ∃ n : Nat, |v| < 2 ^ ((n : Int) - 1021) ∧ n ≤ 2045
      ∧ ((2 : ℝ) ^ ((n : Int) - 1022) ≤ |v| ∨ n = 0) := by
    by_cases hs : |v| < 2 ^ (-1021 : Int)
    · exact ⟨0, by simpa using hs, by omega, .inr rfl⟩
    · rw [not_lt] at hs
      have hpos : 0 < |v| := lt_of_lt_of_le (by positivity) hs
      obtain ⟨k, hk1, hk2⟩ := exists_mem_Ico_zpow hpos (one_lt_two)
      have a : -1021 < k + 1 := (zpow_lt_zpow_iff_right₀ one_lt_two).mp (hs.trans_lt hk2)
      have b : k < 1024 := (zpow_lt_zpow_iff_right₀ (one_lt_two (α := ℝ))).mp (hk1.trans_lt hv)
      obtain ⟨n, rfl⟩ : ∃ n : Nat, k = (n : Int) - 1022 := ⟨(k + 1022).toNat, by omega⟩
      exact ⟨n, hk2.trans_eq (by congr 1; omega), by omega, .inl hk1⟩
  obtain ⟨y, r, hr, hb⟩ := exists_near _ v n h1 h2 h3 hneg
  refine ⟨y, fun _ => ⟨r, hr, fun k hk hvk => hb.trans ?_⟩⟩
  apply zpow_le_zpow_right₀ one_le_two
  rcases h3 with h3 | rfl
  · have := (zpow_lt_zpow_iff_right₀ (one_lt_two (α := ℝ))).mp (h3.trans_lt hvk)
    omega
  · omega

/-- Every real function has a library within 1 ulp: the constraint on COS, SIN and TAN can be met. -/
theorem exists_libAccurate (dom : ℝ → Prop) (fn : ℝ → ℝ) : ∃ lib, libAccurate lib dom fn := by
  classical
  choose y hy using exists_withinUlp
  refine ⟨fun x => if h : ∃ r, isReal x r then y (fn h.choose) else dNaN, fun x r hx _ => ?_⟩
  have h : ∃ r, isReal x r := ⟨r, hx⟩
  simp only [dif_pos h, ← isReal_unique h.choose_spec hx]
  exact hy _

end Sys2Proof.Machine
end

