-- ==== Sys2Proof/Laws/PerInstr.lean ====
section
/-! SUPPORT. Per instruction: the length of an instruction is the number of words of its encoding (R119), and
it is between one and five words. -/

namespace Sys2Proof.Laws

/-- The extension words of an effective address are as many as its length says (R160). -/
theorem ea_ext_length (ea : EA) (sz : Size) : (ea.ext sz).length = ea.words sz := by
  cases ea <;> cases sz <;> rfl

/-- An effective address has at most two extension words. -/
theorem ea_words_le (ea : EA) (sz : Size) : ea.words sz ≤ 2 := by
  cases ea <;> cases sz <;> simp [EA.words]

/-- The extension word of a branch. -/
theorem branchDisp_ext_length (d : BranchDisp) : d.ext.length = d.words := by
  cases d <;> rfl

/-- A branch has at most one extension word. -/
theorem branchDisp_words_le (d : BranchDisp) : d.words ≤ 1 := by
  cases d <;> simp [BranchDisp.words]

/-- The length of an instruction is that of its encoding, and lies between one and five words (R119). -/
def Length.Statement (i : Instr) : Prop :=
  i.length = (encode i).length ∧ 1 ≤ i.length ∧ i.length ≤ 5

/-- Every instruction is as long as its encoding, and no longer than five words. -/
theorem length_all (i : Instr) : Length.Statement i := by
  have hb := fun ea => ea_words_le ea .b
  have hw := fun ea => ea_words_le ea .w
  have hl := fun ea => ea_words_le ea .l
  have hd := branchDisp_words_le
  cases i
  all_goals
    simp only [Length.Statement, Instr.length, encode, List.length_cons, List.length_append, List.length_nil,
      ea_ext_length, branchDisp_ext_length, extByte, extWord, extLong]
  all_goals first
    | decide
    | (rename_i ea; have := hb ea; have := hw ea; have := hl ea; omega)
    | (rename_i ea _; have := hb ea; have := hw ea; have := hl ea; omega)
    | (rename_i a b; have := hb a; have := hw a; have := hl a; have := hb b; have := hw b; have := hl b; omega)
    | (rename_i d; have := hd d; omega)

theorem Length.hosttrap (w : Word) : Length.Statement (.hosttrap w) := length_all _

theorem Length.oriToCcr (imm : Byte) : Length.Statement (.oriToCcr imm) := length_all _

theorem Length.oriToSr (imm : Word) : Length.Statement (.oriToSr imm) := length_all _

theorem Length.oriB (imm : Byte) (ea : EA) : Length.Statement (.oriB imm ea) := length_all _

theorem Length.oriW (imm : Word) (ea : EA) : Length.Statement (.oriW imm ea) := length_all _

theorem Length.oriL (imm : Long) (ea : EA) : Length.Statement (.oriL imm ea) := length_all _

theorem Length.andiToCcr (imm : Byte) : Length.Statement (.andiToCcr imm) := length_all _

theorem Length.andiToSr (imm : Word) : Length.Statement (.andiToSr imm) := length_all _

theorem Length.andiB (imm : Byte) (ea : EA) : Length.Statement (.andiB imm ea) := length_all _

theorem Length.andiW (imm : Word) (ea : EA) : Length.Statement (.andiW imm ea) := length_all _

theorem Length.andiL (imm : Long) (ea : EA) : Length.Statement (.andiL imm ea) := length_all _

theorem Length.subiB (imm : Byte) (ea : EA) : Length.Statement (.subiB imm ea) := length_all _

theorem Length.subiW (imm : Word) (ea : EA) : Length.Statement (.subiW imm ea) := length_all _

theorem Length.subiL (imm : Long) (ea : EA) : Length.Statement (.subiL imm ea) := length_all _

theorem Length.addiB (imm : Byte) (ea : EA) : Length.Statement (.addiB imm ea) := length_all _

theorem Length.addiW (imm : Word) (ea : EA) : Length.Statement (.addiW imm ea) := length_all _

theorem Length.addiL (imm : Long) (ea : EA) : Length.Statement (.addiL imm ea) := length_all _

theorem Length.btstImm (bit : Byte) (ea : EA) : Length.Statement (.btstImm bit ea) := length_all _

theorem Length.bchgImm (bit : Byte) (ea : EA) : Length.Statement (.bchgImm bit ea) := length_all _

theorem Length.bclrImm (bit : Byte) (ea : EA) : Length.Statement (.bclrImm bit ea) := length_all _

theorem Length.bsetImm (bit : Byte) (ea : EA) : Length.Statement (.bsetImm bit ea) := length_all _

theorem Length.eoriToCcr (imm : Byte) : Length.Statement (.eoriToCcr imm) := length_all _

theorem Length.eoriToSr (imm : Word) : Length.Statement (.eoriToSr imm) := length_all _

theorem Length.eoriB (imm : Byte) (ea : EA) : Length.Statement (.eoriB imm ea) := length_all _

theorem Length.eoriW (imm : Word) (ea : EA) : Length.Statement (.eoriW imm ea) := length_all _

theorem Length.eoriL (imm : Long) (ea : EA) : Length.Statement (.eoriL imm ea) := length_all _

theorem Length.cmpiB (imm : Byte) (ea : EA) : Length.Statement (.cmpiB imm ea) := length_all _

theorem Length.cmpiW (imm : Word) (ea : EA) : Length.Statement (.cmpiW imm ea) := length_all _

theorem Length.cmpiL (imm : Long) (ea : EA) : Length.Statement (.cmpiL imm ea) := length_all _

theorem Length.btstReg (dn : RegNo) (ea : EA) : Length.Statement (.btstReg dn ea) := length_all _

theorem Length.bchgReg (dn : RegNo) (ea : EA) : Length.Statement (.bchgReg dn ea) := length_all _

theorem Length.bclrReg (dn : RegNo) (ea : EA) : Length.Statement (.bclrReg dn ea) := length_all _

theorem Length.bsetReg (dn : RegNo) (ea : EA) : Length.Statement (.bsetReg dn ea) := length_all _

theorem Length.movepLoadW (dn : RegNo) (an : RegNo) (disp : Word) : Length.Statement (.movepLoadW dn an disp) := length_all _

theorem Length.movepLoadL (dn : RegNo) (an : RegNo) (disp : Word) : Length.Statement (.movepLoadL dn an disp) := length_all _

theorem Length.movepStoreW (dn : RegNo) (an : RegNo) (disp : Word) : Length.Statement (.movepStoreW dn an disp) := length_all _

theorem Length.movepStoreL (dn : RegNo) (an : RegNo) (disp : Word) : Length.Statement (.movepStoreL dn an disp) := length_all _

theorem Length.moveB (src : EA) (dst : EA) : Length.Statement (.moveB src dst) := length_all _

theorem Length.moveL (src : EA) (dst : EA) : Length.Statement (.moveL src dst) := length_all _

theorem Length.moveaL (src : EA) (an : RegNo) : Length.Statement (.moveaL src an) := length_all _

theorem Length.moveW (src : EA) (dst : EA) : Length.Statement (.moveW src dst) := length_all _

theorem Length.moveaW (src : EA) (an : RegNo) : Length.Statement (.moveaW src an) := length_all _

theorem Length.negxB (ea : EA) : Length.Statement (.negxB ea) := length_all _

theorem Length.negxW (ea : EA) : Length.Statement (.negxW ea) := length_all _

theorem Length.negxL (ea : EA) : Length.Statement (.negxL ea) := length_all _

theorem Length.moveFromSr (ea : EA) : Length.Statement (.moveFromSr ea) := length_all _

theorem Length.chk (ea : EA) (dn : RegNo) : Length.Statement (.chk ea dn) := length_all _

theorem Length.lea (ea : EA) (an : RegNo) : Length.Statement (.lea ea an) := length_all _

theorem Length.clrB (ea : EA) : Length.Statement (.clrB ea) := length_all _

theorem Length.clrW (ea : EA) : Length.Statement (.clrW ea) := length_all _

theorem Length.clrL (ea : EA) : Length.Statement (.clrL ea) := length_all _

theorem Length.negB (ea : EA) : Length.Statement (.negB ea) := length_all _

theorem Length.negW (ea : EA) : Length.Statement (.negW ea) := length_all _

theorem Length.negL (ea : EA) : Length.Statement (.negL ea) := length_all _

theorem Length.moveToCcr (ea : EA) : Length.Statement (.moveToCcr ea) := length_all _

theorem Length.notB (ea : EA) : Length.Statement (.notB ea) := length_all _

theorem Length.notW (ea : EA) : Length.Statement (.notW ea) := length_all _

theorem Length.notL (ea : EA) : Length.Statement (.notL ea) := length_all _

theorem Length.moveToSr (ea : EA) : Length.Statement (.moveToSr ea) := length_all _

theorem Length.nbcd (ea : EA) : Length.Statement (.nbcd ea) := length_all _

theorem Length.swap (dn : RegNo) : Length.Statement (.swap dn) := length_all _

theorem Length.pea (ea : EA) : Length.Statement (.pea ea) := length_all _

theorem Length.extW (dn : RegNo) : Length.Statement (.extW dn) := length_all _

theorem Length.extL (dn : RegNo) : Length.Statement (.extL dn) := length_all _

theorem Length.movemStoreW (mask : Word) (ea : EA) : Length.Statement (.movemStoreW mask ea) := length_all _

theorem Length.movemStoreL (mask : Word) (ea : EA) : Length.Statement (.movemStoreL mask ea) := length_all _

theorem Length.movemLoadW (mask : Word) (ea : EA) : Length.Statement (.movemLoadW mask ea) := length_all _

theorem Length.movemLoadL (mask : Word) (ea : EA) : Length.Statement (.movemLoadL mask ea) := length_all _

theorem Length.tstB (ea : EA) : Length.Statement (.tstB ea) := length_all _

theorem Length.tstW (ea : EA) : Length.Statement (.tstW ea) := length_all _

theorem Length.tstL (ea : EA) : Length.Statement (.tstL ea) := length_all _

theorem Length.tas (ea : EA) : Length.Statement (.tas ea) := length_all _

theorem Length.illegal : Length.Statement .illegal := length_all _

theorem Length.trap (v : BitVec 4) : Length.Statement (.trap v) := length_all _

theorem Length.link (an : RegNo) (disp : Word) : Length.Statement (.link an disp) := length_all _

theorem Length.unlk (an : RegNo) : Length.Statement (.unlk an) := length_all _

theorem Length.moveToUsp (an : RegNo) : Length.Statement (.moveToUsp an) := length_all _

theorem Length.moveFromUsp (an : RegNo) : Length.Statement (.moveFromUsp an) := length_all _

theorem Length.reset : Length.Statement .reset := length_all _

theorem Length.nop : Length.Statement .nop := length_all _

theorem Length.stop (imm : Word) : Length.Statement (.stop imm) := length_all _

theorem Length.rte : Length.Statement .rte := length_all _

theorem Length.rts : Length.Statement .rts := length_all _

theorem Length.trapv : Length.Statement .trapv := length_all _

theorem Length.rtr : Length.Statement .rtr := length_all _

theorem Length.jsr (ea : EA) : Length.Statement (.jsr ea) := length_all _

theorem Length.jmp (ea : EA) : Length.Statement (.jmp ea) := length_all _

theorem Length.addqB (q : BitVec 3) (ea : EA) : Length.Statement (.addqB q ea) := length_all _

theorem Length.addqW (q : BitVec 3) (ea : EA) : Length.Statement (.addqW q ea) := length_all _

theorem Length.addqL (q : BitVec 3) (ea : EA) : Length.Statement (.addqL q ea) := length_all _

theorem Length.subqB (q : BitVec 3) (ea : EA) : Length.Statement (.subqB q ea) := length_all _

theorem Length.subqW (q : BitVec 3) (ea : EA) : Length.Statement (.subqW q ea) := length_all _

theorem Length.subqL (q : BitVec 3) (ea : EA) : Length.Statement (.subqL q ea) := length_all _

theorem Length.st (ea : EA) : Length.Statement (.st ea) := length_all _

theorem Length.sf (ea : EA) : Length.Statement (.sf ea) := length_all _

theorem Length.shi (ea : EA) : Length.Statement (.shi ea) := length_all _

theorem Length.sls (ea : EA) : Length.Statement (.sls ea) := length_all _

theorem Length.scc (ea : EA) : Length.Statement (.scc ea) := length_all _

theorem Length.scs (ea : EA) : Length.Statement (.scs ea) := length_all _

theorem Length.sne (ea : EA) : Length.Statement (.sne ea) := length_all _

theorem Length.seq (ea : EA) : Length.Statement (.seq ea) := length_all _

theorem Length.svc (ea : EA) : Length.Statement (.svc ea) := length_all _

theorem Length.svs (ea : EA) : Length.Statement (.svs ea) := length_all _

theorem Length.spl (ea : EA) : Length.Statement (.spl ea) := length_all _

theorem Length.smi (ea : EA) : Length.Statement (.smi ea) := length_all _

theorem Length.sge (ea : EA) : Length.Statement (.sge ea) := length_all _

theorem Length.slt (ea : EA) : Length.Statement (.slt ea) := length_all _

theorem Length.sgt (ea : EA) : Length.Statement (.sgt ea) := length_all _

theorem Length.sle (ea : EA) : Length.Statement (.sle ea) := length_all _

theorem Length.dbt (dn : RegNo) (disp : Word) : Length.Statement (.dbt dn disp) := length_all _

theorem Length.dbf (dn : RegNo) (disp : Word) : Length.Statement (.dbf dn disp) := length_all _

theorem Length.dbhi (dn : RegNo) (disp : Word) : Length.Statement (.dbhi dn disp) := length_all _

theorem Length.dbls (dn : RegNo) (disp : Word) : Length.Statement (.dbls dn disp) := length_all _

theorem Length.dbcc (dn : RegNo) (disp : Word) : Length.Statement (.dbcc dn disp) := length_all _

theorem Length.dbcs (dn : RegNo) (disp : Word) : Length.Statement (.dbcs dn disp) := length_all _

theorem Length.dbne (dn : RegNo) (disp : Word) : Length.Statement (.dbne dn disp) := length_all _

theorem Length.dbeq (dn : RegNo) (disp : Word) : Length.Statement (.dbeq dn disp) := length_all _

theorem Length.dbvc (dn : RegNo) (disp : Word) : Length.Statement (.dbvc dn disp) := length_all _

theorem Length.dbvs (dn : RegNo) (disp : Word) : Length.Statement (.dbvs dn disp) := length_all _

theorem Length.dbpl (dn : RegNo) (disp : Word) : Length.Statement (.dbpl dn disp) := length_all _

theorem Length.dbmi (dn : RegNo) (disp : Word) : Length.Statement (.dbmi dn disp) := length_all _

theorem Length.dbge (dn : RegNo) (disp : Word) : Length.Statement (.dbge dn disp) := length_all _

theorem Length.dblt (dn : RegNo) (disp : Word) : Length.Statement (.dblt dn disp) := length_all _

theorem Length.dbgt (dn : RegNo) (disp : Word) : Length.Statement (.dbgt dn disp) := length_all _

theorem Length.dble (dn : RegNo) (disp : Word) : Length.Statement (.dble dn disp) := length_all _

theorem Length.bra (d : BranchDisp) : Length.Statement (.bra d) := length_all _

theorem Length.bsr (d : BranchDisp) : Length.Statement (.bsr d) := length_all _

theorem Length.bhi (d : BranchDisp) : Length.Statement (.bhi d) := length_all _

theorem Length.bls (d : BranchDisp) : Length.Statement (.bls d) := length_all _

theorem Length.bcc (d : BranchDisp) : Length.Statement (.bcc d) := length_all _

theorem Length.bcs (d : BranchDisp) : Length.Statement (.bcs d) := length_all _

theorem Length.bne (d : BranchDisp) : Length.Statement (.bne d) := length_all _

theorem Length.beq (d : BranchDisp) : Length.Statement (.beq d) := length_all _

theorem Length.bvc (d : BranchDisp) : Length.Statement (.bvc d) := length_all _

theorem Length.bvs (d : BranchDisp) : Length.Statement (.bvs d) := length_all _

theorem Length.bpl (d : BranchDisp) : Length.Statement (.bpl d) := length_all _

theorem Length.bmi (d : BranchDisp) : Length.Statement (.bmi d) := length_all _

theorem Length.bge (d : BranchDisp) : Length.Statement (.bge d) := length_all _

theorem Length.blt (d : BranchDisp) : Length.Statement (.blt d) := length_all _

theorem Length.bgt (d : BranchDisp) : Length.Statement (.bgt d) := length_all _

theorem Length.ble (d : BranchDisp) : Length.Statement (.ble d) := length_all _

theorem Length.moveq (dn : RegNo) (data : Byte) : Length.Statement (.moveq dn data) := length_all _

theorem Length.orEaDnB (ea : EA) (dn : RegNo) : Length.Statement (.orEaDnB ea dn) := length_all _

theorem Length.orEaDnW (ea : EA) (dn : RegNo) : Length.Statement (.orEaDnW ea dn) := length_all _

theorem Length.orEaDnL (ea : EA) (dn : RegNo) : Length.Statement (.orEaDnL ea dn) := length_all _

theorem Length.divu (ea : EA) (dn : RegNo) : Length.Statement (.divu ea dn) := length_all _

theorem Length.sbcd (form : RxForm) (ry : RegNo) (rx : RegNo) : Length.Statement (.sbcd form ry rx) := length_all _

theorem Length.orDnEaB (dn : RegNo) (ea : EA) : Length.Statement (.orDnEaB dn ea) := length_all _

theorem Length.orDnEaW (dn : RegNo) (ea : EA) : Length.Statement (.orDnEaW dn ea) := length_all _

theorem Length.orDnEaL (dn : RegNo) (ea : EA) : Length.Statement (.orDnEaL dn ea) := length_all _

theorem Length.divs (ea : EA) (dn : RegNo) : Length.Statement (.divs ea dn) := length_all _

theorem Length.subEaDnB (ea : EA) (dn : RegNo) : Length.Statement (.subEaDnB ea dn) := length_all _

theorem Length.subEaDnW (ea : EA) (dn : RegNo) : Length.Statement (.subEaDnW ea dn) := length_all _

theorem Length.subEaDnL (ea : EA) (dn : RegNo) : Length.Statement (.subEaDnL ea dn) := length_all _

theorem Length.subaW (ea : EA) (an : RegNo) : Length.Statement (.subaW ea an) := length_all _

theorem Length.subxB (form : RxForm) (ry : RegNo) (rx : RegNo) : Length.Statement (.subxB form ry rx) := length_all _

theorem Length.subxW (form : RxForm) (ry : RegNo) (rx : RegNo) : Length.Statement (.subxW form ry rx) := length_all _

theorem Length.subxL (form : RxForm) (ry : RegNo) (rx : RegNo) : Length.Statement (.subxL form ry rx) := length_all _

theorem Length.subDnEaB (dn : RegNo) (ea : EA) : Length.Statement (.subDnEaB dn ea) := length_all _

theorem Length.subDnEaW (dn : RegNo) (ea : EA) : Length.Statement (.subDnEaW dn ea) := length_all _

theorem Length.subDnEaL (dn : RegNo) (ea : EA) : Length.Statement (.subDnEaL dn ea) := length_all _

theorem Length.subaL (ea : EA) (an : RegNo) : Length.Statement (.subaL ea an) := length_all _

theorem Length.cmpB (ea : EA) (dn : RegNo) : Length.Statement (.cmpB ea dn) := length_all _

theorem Length.cmpW (ea : EA) (dn : RegNo) : Length.Statement (.cmpW ea dn) := length_all _

theorem Length.cmpL (ea : EA) (dn : RegNo) : Length.Statement (.cmpL ea dn) := length_all _

theorem Length.cmpaW (ea : EA) (an : RegNo) : Length.Statement (.cmpaW ea an) := length_all _

theorem Length.cmpmB (ay : RegNo) (ax : RegNo) : Length.Statement (.cmpmB ay ax) := length_all _

theorem Length.cmpmW (ay : RegNo) (ax : RegNo) : Length.Statement (.cmpmW ay ax) := length_all _

theorem Length.cmpmL (ay : RegNo) (ax : RegNo) : Length.Statement (.cmpmL ay ax) := length_all _

theorem Length.eorB (dn : RegNo) (ea : EA) : Length.Statement (.eorB dn ea) := length_all _

theorem Length.eorW (dn : RegNo) (ea : EA) : Length.Statement (.eorW dn ea) := length_all _

theorem Length.eorL (dn : RegNo) (ea : EA) : Length.Statement (.eorL dn ea) := length_all _

theorem Length.cmpaL (ea : EA) (an : RegNo) : Length.Statement (.cmpaL ea an) := length_all _

theorem Length.andEaDnB (ea : EA) (dn : RegNo) : Length.Statement (.andEaDnB ea dn) := length_all _

theorem Length.andEaDnW (ea : EA) (dn : RegNo) : Length.Statement (.andEaDnW ea dn) := length_all _

theorem Length.andEaDnL (ea : EA) (dn : RegNo) : Length.Statement (.andEaDnL ea dn) := length_all _

theorem Length.mulu (ea : EA) (dn : RegNo) : Length.Statement (.mulu ea dn) := length_all _

theorem Length.abcd (form : RxForm) (ry : RegNo) (rx : RegNo) : Length.Statement (.abcd form ry rx) := length_all _

theorem Length.exgDD (rx : RegNo) (ry : RegNo) : Length.Statement (.exgDD rx ry) := length_all _

theorem Length.exgAA (rx : RegNo) (ry : RegNo) : Length.Statement (.exgAA rx ry) := length_all _

theorem Length.exgDA (rx : RegNo) (ry : RegNo) : Length.Statement (.exgDA rx ry) := length_all _

theorem Length.andDnEaB (dn : RegNo) (ea : EA) : Length.Statement (.andDnEaB dn ea) := length_all _

theorem Length.andDnEaW (dn : RegNo) (ea : EA) : Length.Statement (.andDnEaW dn ea) := length_all _

theorem Length.andDnEaL (dn : RegNo) (ea : EA) : Length.Statement (.andDnEaL dn ea) := length_all _

theorem Length.muls (ea : EA) (dn : RegNo) : Length.Statement (.muls ea dn) := length_all _

theorem Length.addEaDnB (ea : EA) (dn : RegNo) : Length.Statement (.addEaDnB ea dn) := length_all _

theorem Length.addEaDnW (ea : EA) (dn : RegNo) : Length.Statement (.addEaDnW ea dn) := length_all _

theorem Length.addEaDnL (ea : EA) (dn : RegNo) : Length.Statement (.addEaDnL ea dn) := length_all _

theorem Length.addaW (ea : EA) (an : RegNo) : Length.Statement (.addaW ea an) := length_all _

theorem Length.addxB (form : RxForm) (ry : RegNo) (rx : RegNo) : Length.Statement (.addxB form ry rx) := length_all _

theorem Length.addxW (form : RxForm) (ry : RegNo) (rx : RegNo) : Length.Statement (.addxW form ry rx) := length_all _

theorem Length.addxL (form : RxForm) (ry : RegNo) (rx : RegNo) : Length.Statement (.addxL form ry rx) := length_all _

theorem Length.addDnEaB (dn : RegNo) (ea : EA) : Length.Statement (.addDnEaB dn ea) := length_all _

theorem Length.addDnEaW (dn : RegNo) (ea : EA) : Length.Statement (.addDnEaW dn ea) := length_all _

theorem Length.addDnEaL (dn : RegNo) (ea : EA) : Length.Statement (.addDnEaL dn ea) := length_all _

theorem Length.addaL (ea : EA) (an : RegNo) : Length.Statement (.addaL ea an) := length_all _

theorem Length.asrRegB (count : ShiftCount) (dn : RegNo) : Length.Statement (.asrRegB count dn) := length_all _

theorem Length.asrRegW (count : ShiftCount) (dn : RegNo) : Length.Statement (.asrRegW count dn) := length_all _

theorem Length.asrRegL (count : ShiftCount) (dn : RegNo) : Length.Statement (.asrRegL count dn) := length_all _

theorem Length.aslRegB (count : ShiftCount) (dn : RegNo) : Length.Statement (.aslRegB count dn) := length_all _

theorem Length.aslRegW (count : ShiftCount) (dn : RegNo) : Length.Statement (.aslRegW count dn) := length_all _

theorem Length.aslRegL (count : ShiftCount) (dn : RegNo) : Length.Statement (.aslRegL count dn) := length_all _

theorem Length.lsrRegB (count : ShiftCount) (dn : RegNo) : Length.Statement (.lsrRegB count dn) := length_all _

theorem Length.lsrRegW (count : ShiftCount) (dn : RegNo) : Length.Statement (.lsrRegW count dn) := length_all _

theorem Length.lsrRegL (count : ShiftCount) (dn : RegNo) : Length.Statement (.lsrRegL count dn) := length_all _

theorem Length.lslRegB (count : ShiftCount) (dn : RegNo) : Length.Statement (.lslRegB count dn) := length_all _

theorem Length.lslRegW (count : ShiftCount) (dn : RegNo) : Length.Statement (.lslRegW count dn) := length_all _

theorem Length.lslRegL (count : ShiftCount) (dn : RegNo) : Length.Statement (.lslRegL count dn) := length_all _

theorem Length.roxrRegB (count : ShiftCount) (dn : RegNo) : Length.Statement (.roxrRegB count dn) := length_all _

theorem Length.roxrRegW (count : ShiftCount) (dn : RegNo) : Length.Statement (.roxrRegW count dn) := length_all _

theorem Length.roxrRegL (count : ShiftCount) (dn : RegNo) : Length.Statement (.roxrRegL count dn) := length_all _

theorem Length.roxlRegB (count : ShiftCount) (dn : RegNo) : Length.Statement (.roxlRegB count dn) := length_all _

theorem Length.roxlRegW (count : ShiftCount) (dn : RegNo) : Length.Statement (.roxlRegW count dn) := length_all _

theorem Length.roxlRegL (count : ShiftCount) (dn : RegNo) : Length.Statement (.roxlRegL count dn) := length_all _

theorem Length.rorRegB (count : ShiftCount) (dn : RegNo) : Length.Statement (.rorRegB count dn) := length_all _

theorem Length.rorRegW (count : ShiftCount) (dn : RegNo) : Length.Statement (.rorRegW count dn) := length_all _

theorem Length.rorRegL (count : ShiftCount) (dn : RegNo) : Length.Statement (.rorRegL count dn) := length_all _

theorem Length.rolRegB (count : ShiftCount) (dn : RegNo) : Length.Statement (.rolRegB count dn) := length_all _

theorem Length.rolRegW (count : ShiftCount) (dn : RegNo) : Length.Statement (.rolRegW count dn) := length_all _

theorem Length.rolRegL (count : ShiftCount) (dn : RegNo) : Length.Statement (.rolRegL count dn) := length_all _

theorem Length.asrMem (ea : EA) : Length.Statement (.asrMem ea) := length_all _

theorem Length.aslMem (ea : EA) : Length.Statement (.aslMem ea) := length_all _

theorem Length.lsrMem (ea : EA) : Length.Statement (.lsrMem ea) := length_all _

theorem Length.lslMem (ea : EA) : Length.Statement (.lslMem ea) := length_all _

theorem Length.roxrMem (ea : EA) : Length.Statement (.roxrMem ea) := length_all _

theorem Length.roxlMem (ea : EA) : Length.Statement (.roxlMem ea) := length_all _

theorem Length.rorMem (ea : EA) : Length.Statement (.rorMem ea) := length_all _

theorem Length.rolMem (ea : EA) : Length.Statement (.rolMem ea) := length_all _

theorem Length.linea (low : BitVec 12) : Length.Statement (.linea low) := length_all _

theorem Length.linef (low : BitVec 12) : Length.Statement (.linef low) := length_all _

theorem Length.illegalFiller (w : Word) : Length.Statement (.illegalFiller w) := length_all _

end Sys2Proof.Laws
end

