-- ==== Sys2Proof/Machine/Table.lean ====
section
/-! DEFINITION. The dispatch table and how it is filled (spec/40_execution_loop.md R140 to R142): 65536 slots,
registration with its explicit check, and the order of the registrations (spec/30_encoding.md R113). It never
changes once filled (R42), so it is no field of the state: `decodeWord` is what its slots do. -/

namespace Sys2Proof

/-- What a slot can hold (R113): the host-trap handler, the handler of a row of the opcode table, the handlers
of the lines A and F, the catch-all filler. One handler stands in every slot of its family (R141). -/
inductive Handler where
  | hostTrap
  | row (r : TableRow)
  | lineA
  | lineF
  | filler
deriving DecidableEq, Repr

/-- The dispatch table (R140). -/
abbrev DispatchTable := Vector (Option Handler) 65536

/-- The slot of an opcode word. -/
def DispatchTable.slot (t : DispatchTable) (w : Word) : Option Handler := t[w.toNat]'w.isLt

/-- The table before any registration. -/
def DispatchTable.empty : DispatchTable := Vector.replicate 65536 none

/-- `register(opcode, handler)` (R141): the handler is stored if and only if the slot is empty; a slot that is
occupied keeps what it holds. -/
def DispatchTable.register (w : Word) (h : Handler) (t : DispatchTable) : DispatchTable :=
  match t.slot w with
  | none => t.set w.toNat (some h) w.isLt
  | some _ => t

/-- One handler registered under every word of a list (R141). -/
def DispatchTable.registerAll (ws : List Word) (h : Handler) (t : DispatchTable) : DispatchTable :=
  ws.foldl (fun t w => t.register w h) t

/-- A family of opcode words and its handler. -/
structure Family where
  member  : Word → Bool
  handler : Handler

/-- The words of a family, in order. -/
def Family.words (f : Family) : List Word :=
  ((List.range 65536).map (BitVec.ofNat 16)).filter f.member

/-- Whether a word's bits 15 to 12 are `g`. -/
def inLine (g : Nat) (w : Word) : Bool := decide (w.toNat / 4096 = g)

/-- The 227 rows at priority 1 of the opcode table. -/
def instructionRows : List TableRow := (List.range 16).flatMap opcodeRows

/-- The registrations at start-up, in order (R113): the host band, the instruction rows, the lines A and F, the
filler. -/
def registrations (band : HostBand) : List Family :=
  ⟨band.contains, .hostTrap⟩
    :: instructionRows.map (fun r => ⟨fun w => r.claims w.toNat, .row r⟩)
    ++ [⟨inLine 0xA, .lineA⟩, ⟨inLine 0xF, .lineF⟩, ⟨fun _ => true, .filler⟩]

/-- The table after start-up (R141, R142). -/
def dispatchTable (band : HostBand) : DispatchTable :=
  (registrations band).foldl (fun t f => t.registerAll f.words f.handler) .empty

/-- What a slot holds: the first of the host band, the instruction rows, the lines A and F and the filler that
claims the word (R113). -/
def slotHandler (band : HostBand) (w : Word) : Handler :=
  if band.contains w then .hostTrap
  else
    match instructionRows.find? (fun r => r.claims w.toNat) with
    | some r => .row r
    | none => if inLine 0xA w then .lineA else if inLine 0xF w then .lineF else .filler

/-- The last pass of start-up (R142): no slot is empty. -/
def DispatchTable.complete (t : DispatchTable) : Bool := t.all Option.isSome

/-- The decoding of the instruction rows: that of a machine with no host band. -/
def decodeRow (w : Word) (ext : List Word) : Instr := decodeWord { base := 0, count := 0, stop := 0#16 } w ext

/-- The instruction a handler executes for an opcode word and the words that follow it (R140, R147). -/
def Handler.instr (h : Handler) (w : Word) (ext : List Word) : Instr :=
  match h with
  | .hostTrap => .hosttrap w
  | .row _ => decodeRow w ext
  | .lineA => .linea (w.setWidth 12)
  | .lineF => .linef (w.setWidth 12)
  | .filler => .illegalFiller w

end Sys2Proof
end

