-- ==== Sys2Proof/Laws/Table.lean ====
section
/-! SUPPORT. What registration does to the dispatch table, and what the table holds once it is filled. -/

namespace Sys2Proof

variable (t : DispatchTable)

@[simp] theorem DispatchTable.slot_empty (w : Word) : DispatchTable.empty.slot w = none := by
  simp [DispatchTable.slot, DispatchTable.empty]

/-- First registration wins (R141). -/
theorem DispatchTable.slot_register (v w : Word) (h : Handler) :
    (t.register v h).slot w = if w = v ∧ t.slot v = none then some h else t.slot w := by
  unfold DispatchTable.register
  cases hv : t.slot v with
  | some k => simp
  | none =>
    by_cases hw : w = v
    · subst hw
      simp [DispatchTable.slot]
    · have : v.toNat ≠ w.toNat := fun e => hw (BitVec.eq_of_toNat_eq e.symm)
      simp [DispatchTable.slot, hw, Vector.getElem_set_ne _ _ this]

/-- A later attempt on an occupied slot changes nothing (R141). -/
theorem DispatchTable.register_occupied (w : Word) (h : Handler) (hw : t.slot w ≠ none) : t.register w h = t := by
  unfold DispatchTable.register
  cases hs : t.slot w with
  | some k => rfl
  | none => exact absurd hs hw

/-- A family fills those of its slots that are empty, and no other. -/
theorem DispatchTable.slot_registerAll (ws : List Word) (h : Handler) (w : Word) :
    (t.registerAll ws h).slot w = (t.slot w).or (if w ∈ ws then some h else none) := by
  induction ws generalizing t with
  | nil => simp [DispatchTable.registerAll]
  | cons v ws ih =>
    have := ih (t.register v h)
    rw [DispatchTable.registerAll] at this ⊢
    rw [List.foldl_cons, this, DispatchTable.slot_register]
    by_cases hv : w = v
    · subst hv
      cases t.slot w <;> simp
    · simp [hv]

/-- The words of a family are its members. -/
theorem Family.mem_words (f : Family) (w : Word) : w ∈ f.words ↔ f.member w = true := by
  simp only [Family.words, List.mem_filter, List.mem_map, List.mem_range, and_iff_right_iff_imp]
  exact fun _ => ⟨w.toNat, w.isLt, by simp⟩

/-- After a list of families a slot that was empty holds the handler of the first family that has its word. -/
theorem slot_families (fs : List Family) (t : DispatchTable) (w : Word) :
    (fs.foldl (fun t f => t.registerAll f.words f.handler) t).slot w =
      (t.slot w).or ((fs.find? (fun f => f.member w)).map Family.handler) := by
  induction fs generalizing t with
  | nil => simp
  | cons f fs ih =>
    rw [List.foldl_cons, ih, DispatchTable.slot_registerAll, List.find?_cons]
    cases hm : f.member w <;> cases hs : t.slot w <;> simp [Family.mem_words, hm]

/-- The filled table holds what R113 says, in every slot. -/
theorem dispatchTable_slot (band : HostBand) (w : Word) :
    (dispatchTable band).slot w = some (slotHandler band w) := by
  rw [dispatchTable, slot_families, registrations, slotHandler, DispatchTable.slot_empty, Option.none_or]
  simp only [List.cons_append, List.find?_cons, List.find?_append, List.find?_map, Function.comp_def]
  cases band.contains w
  · cases instructionRows.find? (fun r => r.claims w.toNat) with
    | some r => rfl
    | none => cases inLine 0xA w <;> cases inLine 0xF w <;> rfl
  · rfl

/-- No slot of the filled table is empty (R142). -/
theorem dispatchTable_complete (band : HostBand) : (dispatchTable band).complete = true := by
  rw [DispatchTable.complete, Vector.all_eq_true]
  intro i hi
  have h := dispatchTable_slot band (BitVec.ofNat 16 i)
  have hw : (BitVec.ofNat 16 i).toNat = i := (BitVec.toNat_ofNat _ _).trans (Nat.mod_eq_of_lt hi)
  simp only [DispatchTable.slot, hw] at h
  rw [h]
  rfl

/-- The bits 15 to 12 as a number. -/
theorem fields_g (w : Word) : (fields w).g.toNat = w.toNat / 4096 := by
  simp only [fields, BitVec.extractLsb'_toNat, Nat.shiftRight_eq_div_pow]
  exact Nat.mod_eq_of_lt (by have := w.isLt; omega)

/-- The decoder executes what the slot's handler executes (R113, R140, R147), given that it sends exactly the
unclaimed words to the filler, which is a statement of its own. -/
theorem slotHandler_instr (hfill : Obligations.FillerIsExactlyTheUnclaimedWords) (band : HostBand) (w : Word)
    (ext : List Word) : (slotHandler band w).instr w ext = decodeWord band w ext := by
  unfold slotHandler
  cases hb : band.contains w with
  | true => simp [Handler.instr, decodeWord, hb]
  | false =>
    have hno : HostBand.contains { base := 0, count := 0, stop := 0#16 } w = false := by simp [HostBand.contains]
    simp only [Bool.false_eq_true, if_false]
    split
    · simp only [Handler.instr, decodeRow, decodeWord, hno, hb]
    · rename_i hnone
      by_cases hA : w.toNat / 4096 = 0xA
      · have g : (fields w).g = 10#4 := BitVec.eq_of_toNat_eq ((fields_g w).trans hA)
        simp [inLine, hA, Handler.instr, decodeWord, hb, g]
      · by_cases hF : w.toNat / 4096 = 0xF
        · have g : (fields w).g = 15#4 := BitVec.eq_of_toNat_eq ((fields_g w).trans hF)
          simp [inLine, hF, Handler.instr, decodeWord, hb, g]
        · have hr : rowClaims w.toNat = false := by
            rw [rowClaims, List.any_eq_false]
            intro r hr
            refine List.find?_eq_none.mp hnone r (List.mem_flatMap.mpr ⟨_, List.mem_range.mpr ?_, hr⟩)
            have := w.isLt
            omega
          have := (hfill band w ext hb).mpr (by simp [fillerWord, hr, hA, hF])
          simp [inLine, hA, hF, Handler.instr, this]

end Sys2Proof
end

