-- ==== Sys2Proof/Tests/Slice0.lean ====
section
/-! SUPPORT. Tests of the model. Expected results are the spec's: the encodings of spec/30_encoding.md written
out bit by bit, and rows of spec/95_test_vectors.md and spec/96_test_vectors_system.md (configuration T, which
is the configuration of `State.reset`). The last part shows, for each statement that has hypotheses, a state
and operands that meet them. -/

namespace Sys2Proof.Tests

open Sys2Proof.Machine

/-! A small state and one step on it. -/

/-- The name of a flag. -/
inductive FlagName where
  | x | n | z | v | c

/-- The flag of a name. -/
def FlagName.of (f : Flags) : FlagName → Bool
  | .x => f.x
  | .n => f.n
  | .z => f.z
  | .v => f.v
  | .c => f.c

/-- One fact about a state, to set up or to look at. -/
inductive Fact where
  | d (r : RegNo) (v : Long)
  | a (r : RegNo) (v : Long)
  | usp (v : Long)
  | ssp (v : Long)
  | sr (w : Word)
  | ccr (v : Byte)
  | flag (k : FlagName) (b : Bool)
  | pc (v : Long)
  | mem (sz : Size) (addr : Nat) (v : Nat)
  | stopped (b : Bool)
  | irq (b : Bool)
  | event (e : Event)

/-- The fact is made to hold (single flags are only looked at). -/
def Fact.give (f : Fact) (s : State) : State :=
  match f with
  | .d r v => s.setD r v
  | .a r v => s.setA r v
  | .usp v => { s with usp := v }
  | .ssp v => { s with ssp := v }
  | .sr w => { s with sr := StatusReg.ofWord w, traceEnabled := w.getLsbD 15 }
  | .ccr v => s.setFlags (Flags.ofByte v)
  | .flag _ _ => s
  | .pc v => s.setPc v
  | .mem sz addr v => { s with mem := s.mem.putBytes addr (bytesOf sz (BitVec.ofNat 32 v)) }
  | .stopped b => { s with stopped := b }
  | .irq b => { s with irqPending := b }
  | .event e => { s with events := s.events ++ [e] }

/-- The fact holds. -/
def Fact.holds (s : State) : Fact → Bool
  | .d r v => decide (s.dreg r = v)
  | .a r v => decide (s.areg r = v)
  | .usp v => decide (s.usp = v)
  | .ssp v => decide (s.ssp = v)
  | .sr w => decide (s.sr.toWord &&& 0xFF00#16 = w &&& 0xFF00#16)
  | .ccr v => decide (s.sr.ccr.toByte = v)
  | .flag k b => decide (k.of s.sr.ccr = b)
  | .pc v => decide (s.pcb = v)
  | .mem sz addr v => decide ((readBytes s.mem sz addr).toNat = v)
  | .stopped b => decide (s.stopped = b)
  | .irq b => decide (s.irqPending = b)
  | .event e => decide (e ∈ s.events)

/-- The default state of the spec's vectors: the words at an address and `pc` there, supervisor mode, no
trace, mask 0, flags clear, `A7 = 0x8000`. -/
def base (at_ : Nat) (ws : List Word) : State :=
  { State.reset with
    sr := StatusReg.ofWord 0x2000#16
    a := State.reset.a.set 7 0x8000#32
    pc := BitVec.ofNat 31 (at_ / 2)
    mem := storeWords at_ State.reset.mem ws }

/-- The default state with some facts. -/
def given (at_ : Nat) (ws : List Word) (fs : List Fact) : State := fs.foldl (fun s f => f.give s) (base at_ ws)

/-- An answer is a next state with a property. -/
def meets (r : Result) (p : State → Bool) : Bool :=
  match r with
  | .next t => p t
  | _ => false

theorem meets_next {r : Result} {p : State → Bool} (h : meets r p = true) : ∃ t, r = .next t ∧ p t = true := by
  cases r <;> simp_all [meets]

/-- One step from the default state with some facts gives a state with other facts. -/
def after (at_ : Nat) (ws : List Word) (before expected : List Fact) : Bool :=
  meets (step (given at_ ws before)) (fun t => expected.all (Fact.holds t))

/-! Rows of the spec's vectors, one step each. A flag the spec leaves open is not looked at. -/

/-- Row E4 of the spec: `MOVE.W (A0)+,D0`. -/
theorem test_e4_move_w_a0_d0 :
    after 0x1000 [0x3018#16] [.a 0 0x00002000#32, .mem .w 0x2000 0x0042]
      [.d 0 0x00000042#32, .a 0 0x00002002#32, .ccr 0x00#8, .pc 0x00001002#32] = true := by
  decide

/-- Row E7 of the spec: `MOVE.W 4(A0,D1.W),D0`. -/
theorem test_e7_move_w :
    after 0x1000 [0x3030#16, 0x1004#16] [.a 0 0x00002000#32, .d 1 0x0001FFFE#32, .mem .w 0x2002 0x5555]
      [.d 0 0x00005555#32, .ccr 0x00#8, .pc 0x00001004#32] = true := by
  decide

/-- Row E14 of the spec: `MOVE.W 2(PC,D1.W),D0`. -/
theorem test_e14_move_w :
    after 0x1000 [0x303B#16, 0x1002#16] [.d 1 0x00000010#32, .mem .w 0x1014 0x0708]
      [.d 0 0x00000708#32, .ccr 0x00#8, .pc 0x00001004#32] = true := by
  decide

/-- Row E21 of the spec: `MOVE.B (A7)+,D0`. -/
theorem test_e21_move_b_a7_d0 :
    after 0x1000 [0x101F#16] [.mem .w 0x8000 0xCD99]
      [.d 0 0x000000CD#32, .a 7 0x00008002#32, .ccr 0x08#8, .pc 0x00001002#32] = true := by
  decide

/-- Row E23 of the spec: `MOVE.L A0,-(A0)`. -/
theorem test_e23_move_l_a0_a0 :
    after 0x1000 [0x2108#16] [.a 0 0x00002004#32]
      [.a 0 0x00002000#32, .ccr 0x00#8, .mem .l 0x2000 0x00002004, .pc 0x00001002#32] = true := by
  decide

/-- Row E26 of the spec: `MOVE.W D0,(A0)`. -/
theorem test_e26_move_w_d0_a0 :
    after 0x1000 [0x3080#16] [.d 0 0x00009999#32, .a 0 0x00030000#32]
      [.ccr 0x08#8, .pc 0x00001002#32] = true := by
  decide

/-- Row T1 of the spec: `MOVE.W D1,D0`. -/
theorem test_t1_move_w_d1_d0 :
    after 0x1000 [0x3001#16] [.d 1 0x1234ABCD#32, .d 0 0xFFFF0000#32, .ccr 0x1F#8]
      [.d 0 0xFFFFABCD#32, .ccr 0x18#8, .pc 0x00001002#32] = true := by
  decide

/-- Row T3 of the spec: `MOVEA.W #$8000,A1`. -/
theorem test_t3_movea_w :
    after 0x1000 [0x327C#16, 0x8000#16] [.ccr 0x1F#8]
      [.a 1 0xFFFF8000#32, .ccr 0x1F#8, .pc 0x00001004#32] = true := by
  decide

/-- Row T9 of the spec: `MOVEM.L D0-D1,-(A7)`. -/
theorem test_t9_movem_l_d0_d1_a7 :
    after 0x1800 [0x48E7#16, 0xC000#16] [.a 7 0x00001000#32, .d 0 0x11111111#32, .d 1 0x22222222#32]
      [.a 7 0x00000FF8#32, .ccr 0x00#8, .mem .l 0x0FFC 0x22222222, .mem .l 0x0FF8 0x11111111,
        .pc 0x00001804#32] = true := by
  decide

/-- Row T12 of the spec: `MOVEM.W (A1),D0/A0`. -/
theorem test_t12_movem_w_a1_d0_a0 :
    after 0x1000 [0x4C91#16, 0x0101#16] [.a 1 0x00002000#32, .d 0 0x11111111#32, .mem .w 0x2000 0xABCD,
        .mem .w 0x2002 0x7000]
      [.d 0 0xFFFFABCD#32, .a 0 0x00007000#32, .ccr 0x00#8, .pc 0x00001004#32] = true := by
  decide

/-- Row T13 of the spec: `MOVEM.L A0/A1,-(A0)`. -/
theorem test_t13_movem_l_a0_a1_a0 :
    after 0x1000 [0x48E0#16, 0x00C0#16] [.a 0 0x00002008#32, .a 1 0x000000A1#32]
      [.a 0 0x00002000#32, .ccr 0x00#8, .mem .l 0x2004 0x000000A1, .mem .l 0x2000 0x00002008,
        .pc 0x00001004#32] = true := by
  decide

/-- Row T14 of the spec: `MOVEM.L (A0)+,D0/A0`. -/
theorem test_t14_movem_l_a0_d0_a0 :
    after 0x1000 [0x4CD8#16, 0x0101#16] [.a 0 0x00002000#32, .mem .l 0x2000 0x000000D0,
        .mem .l 0x2004 0x00005555]
      [.d 0 0x000000D0#32, .a 0 0x00002008#32, .ccr 0x00#8, .pc 0x00001004#32] = true := by
  decide

/-- Row T18 of the spec: `MOVEP.L D0,1(A0)`. -/
theorem test_t18_movep_l_d0 :
    after 0x1000 [0x01C8#16, 0x0001#16] [.d 0 0x11223344#32, .a 0 0x00002000#32]
      [.ccr 0x00#8, .mem .b 0x2001 0x11, .mem .b 0x2003 0x22, .mem .b 0x2005 0x33, .mem .b 0x2007 0x44,
        .pc 0x00001004#32] = true := by
  decide

/-- Row T20 of the spec: `MOVEP.W 0(A0),D1`. -/
theorem test_t20_movep_w :
    after 0x1000 [0x0308#16, 0x0000#16] [.a 0 0x00002000#32, .d 1 0x99999999#32, .mem .l 0x2000 0xAA00BB00]
      [.d 1 0x9999AABB#32, .ccr 0x00#8, .pc 0x00001004#32] = true := by
  decide

/-- Row T23 of the spec: `PEA (A7)`. -/
theorem test_t23_pea_a7 :
    after 0x1000 [0x4857#16] []
      [.a 7 0x00007FFC#32, .ccr 0x00#8, .mem .l 0x7FFC 0x00008000, .pc 0x00001002#32] = true := by
  decide

/-- Row T26 of the spec: `EXG D0,A1`. -/
theorem test_t26_exg_d0_a1 :
    after 0x1000 [0xC189#16] [.d 0 0x00000005#32, .a 1 0x00000006#32]
      [.d 0 0x00000006#32, .a 1 0x00000005#32, .ccr 0x00#8, .pc 0x00001002#32] = true := by
  decide

/-- Row T29 of the spec: `LINK A6,#-8`. -/
theorem test_t29_link_a6 :
    after 0x1800 [0x4E56#16, 0xFFF8#16] [.a 7 0x00001000#32, .a 6 0x00000055#32]
      [.a 6 0x00000FFC#32, .a 7 0x00000FF4#32, .ccr 0x00#8, .mem .l 0x0FFC 0x00000055,
        .pc 0x00001804#32] = true := by
  decide

/-- Row T31 of the spec: `LINK A7,#0`. -/
theorem test_t31_link_a7 :
    after 0x1000 [0x4E57#16, 0x0000#16] [.a 7 0x00002000#32]
      [.a 7 0x00001FFC#32, .ccr 0x00#8, .mem .l 0x1FFC 0x00001FFC, .pc 0x00001004#32] = true := by
  decide

/-- Row T32 of the spec: `UNLK A7`. -/
theorem test_t32_unlk_a7 :
    after 0x1000 [0x4E5F#16] [.a 7 0x00002000#32, .mem .l 0x2000 0x00003000]
      [.a 7 0x00003000#32, .ccr 0x00#8, .pc 0x00001002#32] = true := by
  decide

/-- Row T35 of the spec: `EXT.W D0`. -/
theorem test_t35_ext_w_d0 :
    after 0x1000 [0x4880#16] [.d 0 0x12340080#32]
      [.d 0 0x1234FF80#32, .ccr 0x08#8, .pc 0x00001002#32] = true := by
  decide

/-- Row A1 of the spec: `ADD.B D1,D0`. -/
theorem test_a1_add_b_d1_d0 :
    after 0x1000 [0xD001#16] [.d 0 0x0000007F#32, .d 1 0x00000001#32]
      [.d 0 0x00000080#32, .ccr 0x0A#8, .pc 0x00001002#32] = true := by
  decide

/-- Row A3 of the spec: `ADD.W D0,(A0)`. -/
theorem test_a3_add_w_d0_a0 :
    after 0x1000 [0xD150#16] [.d 0 0x00000001#32, .a 0 0x00002000#32, .mem .w 0x2000 0xFFFF]
      [.ccr 0x15#8, .mem .w 0x2000 0x0000, .pc 0x00001002#32] = true := by
  decide

/-- Row A6 of the spec: `ADDA.W D0,A0`. -/
theorem test_a6_adda_w_d0_a0 :
    after 0x1000 [0xD0C0#16] [.d 0 0x0000FFFE#32, .a 0 0x00001000#32, .ccr 0x1F#8]
      [.a 0 0x00000FFE#32, .ccr 0x1F#8, .pc 0x00001002#32] = true := by
  decide

/-- Row A10 of the spec: `ADDQ.W #8,A0`. -/
theorem test_a10_addq_w :
    after 0x1000 [0x5048#16] [.a 0 0x0000FFFC#32, .ccr 0x1F#8]
      [.a 0 0x00010004#32, .ccr 0x1F#8, .pc 0x00001002#32] = true := by
  decide

/-- Row A12 of the spec: `ADDX.L D1,D0`. -/
theorem test_a12_addx_l_d1_d0 :
    after 0x1000 [0xD181#16] [.d 0 0xFFFFFFFF#32, .d 1 0x00000000#32, .ccr 0x14#8]
      [.d 0 0x00000000#32, .ccr 0x15#8, .pc 0x00001002#32] = true := by
  decide

/-- Row A14 of the spec: `ADDX.B -(A0),-(A1)`. -/
theorem test_a14_addx_b_a0_a1 :
    after 0x1000 [0xD308#16] [.a 0 0x00002001#32, .a 1 0x00002003#32, .ccr 0x10#8, .mem .b 0x2000 0x01,
        .mem .b 0x2002 0x7E]
      [.a 0 0x00002000#32, .a 1 0x00002002#32, .ccr 0x0A#8, .mem .b 0x2002 0x80,
        .pc 0x00001002#32] = true := by
  decide

/-- Row A19 of the spec: `SUBA.W D0,A0`. -/
theorem test_a19_suba_w_d0_a0 :
    after 0x1000 [0x90C0#16] [.d 0 0x00008000#32, .a 0 0x00000000#32]
      [.a 0 0x00008000#32, .ccr 0x00#8, .pc 0x00001002#32] = true := by
  decide

/-- Row A22 of the spec: `SUBQ.L #8,A0`. -/
theorem test_a22_subq_l :
    after 0x1000 [0x5188#16] [.a 0 0x00000004#32, .ccr 0x00#8]
      [.a 0 0xFFFFFFFC#32, .ccr 0x00#8, .pc 0x00001002#32] = true := by
  decide

/-- Row A25 of the spec: `CMP.L D1,D0`. -/
theorem test_a25_cmp_l_d1_d0 :
    after 0x1000 [0xB081#16] [.d 0 0x00000005#32, .d 1 0x00000007#32, .ccr 0x10#8]
      [.ccr 0x19#8, .pc 0x00001002#32] = true := by
  decide

/-- Row A27 of the spec: `CMPA.W D0,A0`. -/
theorem test_a27_cmpa_w_d0_a0 :
    after 0x1000 [0xB0C0#16] [.d 0 0x0000FFFF#32, .a 0 0xFFFFFFFF#32]
      [.ccr 0x04#8, .pc 0x00001002#32] = true := by
  decide

/-- Row A30 of the spec: `CMPM.B (A1)+,(A0)+`. -/
theorem test_a30_cmpm_b_a1_a0 :
    after 0x1000 [0xB109#16] [.a 0 0x00002000#32, .a 1 0x00002002#32, .mem .b 0x2000 0x10,
        .mem .b 0x2002 0x20]
      [.a 0 0x00002001#32, .a 1 0x00002003#32, .ccr 0x09#8, .pc 0x00001002#32] = true := by
  decide

/-- Row A33 of the spec: `NEG.B D0`. -/
theorem test_a33_neg_b_d0 :
    after 0x1000 [0x4400#16] [.d 0 0x00000080#32]
      [.ccr 0x1B#8, .pc 0x00001002#32] = true := by
  decide

/-- Row A35 of the spec: `NEGX.B D0`. -/
theorem test_a35_negx_b_d0 :
    after 0x1000 [0x4000#16] [.d 0 0x00000000#32, .ccr 0x14#8]
      [.d 0 0x000000FF#32, .ccr 0x19#8, .pc 0x00001002#32] = true := by
  decide

/-- Row A37 of the spec: `TST.W D0`. -/
theorem test_a37_tst_w_d0 :
    after 0x1000 [0x4A40#16] [.d 0 0xFFFF8000#32, .ccr 0x13#8]
      [.ccr 0x18#8, .pc 0x00001002#32] = true := by
  decide

/-- Row A40 of the spec: `MULU D1,D0`. -/
theorem test_a40_mulu_d1_d0 :
    after 0x1000 [0xC0C1#16] [.d 0 0xFFFF0000#32, .d 1 0x0000FFFF#32, .ccr 0x1B#8]
      [.d 0 0x00000000#32, .ccr 0x14#8, .pc 0x00001002#32] = true := by
  decide

/-- Row A43 of the spec: `MULS D1,D0`. -/
theorem test_a43_muls_d1_d0 :
    after 0x1000 [0xC1C1#16] [.d 0 0x00008000#32, .d 1 0x00007FFF#32]
      [.d 0 0xC0008000#32, .ccr 0x08#8, .pc 0x00001002#32] = true := by
  decide

/-- Row A44 of the spec: `DIVU D1,D0`. -/
theorem test_a44_divu_d1_d0 :
    after 0x1000 [0x80C1#16] [.d 0 0x00010005#32, .d 1 0x00000002#32]
      [.d 0 0x00018002#32, .ccr 0x08#8, .pc 0x00001002#32] = true := by
  decide

/-- Row A45 of the spec: `DIVU D1,D0`. -/
theorem test_a45_divu_d1_d0 :
    after 0x1000 [0x80C1#16] [.d 0 0x00020000#32, .d 1 0x00000001#32, .ccr 0x10#8]
      [.flag .x true, .flag .v true, .flag .c false, .pc 0x00001002#32] = true := by
  decide

/-- Row A52 of the spec: `DIVS D1,D0`. -/
theorem test_a52_divs_d1_d0 :
    after 0x1000 [0x81C1#16] [.d 0 0xFFFFFFF9#32, .d 1 0x0000FFFE#32]
      [.d 0 0xFFFF0003#32, .ccr 0x00#8, .pc 0x00001002#32] = true := by
  decide

/-- Row A53 of the spec: `DIVS D1,D0`. -/
theorem test_a53_divs_d1_d0 :
    after 0x1000 [0x81C1#16] [.d 0 0x80000000#32, .d 1 0x0000FFFF#32]
      [.flag .x false, .flag .v true, .flag .c false, .pc 0x00001002#32] = true := by
  decide

/-- Row A57 of the spec: `ABCD D1,D0`. -/
theorem test_a57_abcd_d1_d0 :
    after 0x1000 [0xC101#16] [.d 0 0x00000019#32, .d 1 0x00000001#32, .ccr 0x04#8]
      [.d 0 0x00000020#32, .flag .x false, .flag .z false, .flag .c false, .pc 0x00001002#32] = true := by
  decide

/-- R265 by hand on bytes with a digit above 9 (D17): `lo = 20`, `t = 0x94 + 6 = 0x9A`, `c`, and the byte of
`0x9A - 0xA0` is 0xFA. -/
theorem test_abcd_digits_above_nine :
    after 0x1000 [0xC101#16] [.d 0 0x0000004A#32, .d 1 0x0000004A#32, .ccr 0x04#8]
      [.d 0 0x000000FA#32, .flag .x true, .flag .z false, .flag .c true, .pc 0x00001002#32] = true := by
  decide

/-- R265 by hand: `lo = -15`, `t = -15 - 6 = -21`, `c`, and `-21 + 0xA0` is 0x8B. -/
theorem test_sbcd_digits_above_nine :
    after 0x1000 [0x8101#16] [.d 0 0x00000000#32, .d 1 0x0000000F#32, .ccr 0x04#8]
      [.d 0 0x0000008B#32, .flag .x true, .flag .z false, .flag .c true, .pc 0x00001002#32] = true := by
  decide

/-- Row A62 of the spec: `SBCD D1,D0`. -/
theorem test_a62_sbcd_d1_d0 :
    after 0x1000 [0x8101#16] [.d 0 0x00000000#32, .d 1 0x00000001#32, .ccr 0x04#8]
      [.d 0 0x00000099#32, .flag .x true, .flag .z false, .flag .c true, .pc 0x00001002#32] = true := by
  decide

/-- Row A67 of the spec: `NBCD D0`. -/
theorem test_a67_nbcd_d0 :
    after 0x1000 [0x4800#16] [.d 0 0x00000000#32, .ccr 0x14#8]
      [.d 0 0x00000099#32, .flag .x true, .flag .z false, .flag .c true, .pc 0x00001002#32] = true := by
  decide

/-- Row G3 of the spec: `ANDI.W #$00FF,D0`. -/
theorem test_g3_andi_w :
    after 0x1000 [0x0240#16, 0x00FF#16] [.d 0 0x1234ABCD#32]
      [.d 0 0x123400CD#32, .ccr 0x00#8, .pc 0x00001004#32] = true := by
  decide

/-- Row G4 of the spec: `ANDI #$FE,CCR`. -/
theorem test_g4_andi_fe_ccr :
    after 0x1000 [0x023C#16, 0x00FE#16] [.ccr 0x1F#8]
      [.ccr 0x1E#8, .pc 0x00001004#32] = true := by
  decide

/-- Row G9 of the spec: `EOR.L D1,D0`. -/
theorem test_g9_eor_l_d1_d0 :
    after 0x1000 [0xB380#16] [.d 0 0xFFFFFFFF#32, .d 1 0xFFFFFFFF#32]
      [.d 0 0x00000000#32, .ccr 0x04#8, .pc 0x00001002#32] = true := by
  decide

/-- Row G13 of the spec: `NOT.W (A0)`. -/
theorem test_g13_not_w_a0 :
    after 0x1000 [0x4650#16] [.a 0 0x00002000#32, .mem .w 0x2000 0xFFFF]
      [.ccr 0x04#8, .mem .w 0x2000 0x0000, .pc 0x00001002#32] = true := by
  decide

/-- Row H2 of the spec: `ASL.B #2,D0`. -/
theorem test_h2_asl_b :
    after 0x1000 [0xE500#16] [.d 0 0x00000060#32]
      [.d 0 0x00000080#32, .ccr 0x1B#8, .pc 0x00001002#32] = true := by
  decide

/-- Row H5 of the spec: `ASL.L D1,D0`. -/
theorem test_h5_asl_l_d1_d0 :
    after 0x1000 [0xE3A0#16] [.d 0 0x00000001#32, .d 1 0x00000021#32]
      [.d 0 0x00000000#32, .ccr 0x06#8, .pc 0x00001002#32] = true := by
  decide +kernel

/-- Row H7 of the spec: `ASR.L D1,D0`. -/
theorem test_h7_asr_l_d1_d0 :
    after 0x1000 [0xE2A0#16] [.d 0 0x80000000#32, .d 1 0x00000028#32]
      [.d 0 0xFFFFFFFF#32, .ccr 0x19#8, .pc 0x00001002#32] = true := by
  decide +kernel

/-- Row H14 of the spec: `LSR.B D1,D0`. -/
theorem test_h14_lsr_b_d1_d0 :
    after 0x1000 [0xE228#16] [.d 0 0x00000081#32, .d 1 0x00000040#32, .ccr 0x11#8]
      [.ccr 0x18#8, .pc 0x00001002#32] = true := by
  decide

/-- Row H17 of the spec: `ROL.B D1,D0`. -/
theorem test_h17_rol_b_d1_d0 :
    after 0x1000 [0xE338#16] [.d 0 0x00000081#32, .d 1 0x00000008#32]
      [.ccr 0x09#8, .pc 0x00001002#32] = true := by
  decide

/-- Row H20 of the spec: `ROR.L D1,D0`. -/
theorem test_h20_ror_l_d1_d0 :
    after 0x1000 [0xE2B8#16] [.d 0 0x00000001#32, .d 1 0x00000021#32]
      [.d 0 0x80000000#32, .ccr 0x09#8, .pc 0x00001002#32] = true := by
  decide

/-- Row H22 of the spec: `ROXL.B D1,D0`. -/
theorem test_h22_roxl_b_d1_d0 :
    after 0x1000 [0xE330#16] [.d 0 0x00000081#32, .d 1 0x00000009#32, .ccr 0x10#8]
      [.ccr 0x19#8, .pc 0x00001002#32] = true := by
  decide

/-- Row H25 of the spec: `ROXR.L D1,D0`. -/
theorem test_h25_roxr_l_d1_d0 :
    after 0x1000 [0xE2B0#16] [.d 0 0x00000001#32, .d 1 0x00000021#32, .ccr 0x00#8]
      [.ccr 0x00#8, .pc 0x00001002#32] = true := by
  decide +kernel

/-- Row H28 of the spec: `ROXR.W (A0)`. -/
theorem test_h28_roxr_w_a0 :
    after 0x1000 [0xE4D0#16] [.a 0 0x00002000#32, .ccr 0x10#8, .mem .w 0x2000 0x0000]
      [.ccr 0x08#8, .mem .w 0x2000 0x8000, .pc 0x00001002#32] = true := by
  decide

/-- Row I1 of the spec: `BTST D1,D0`. -/
theorem test_i1_btst_d1_d0 :
    after 0x1000 [0x0300#16] [.d 1 0x00000021#32, .d 0 0x00000002#32, .ccr 0x1F#8]
      [.ccr 0x1B#8, .pc 0x00001002#32] = true := by
  decide

/-- Row I3 of the spec: `BTST #15,(A0)`. -/
theorem test_i3_btst :
    after 0x1000 [0x0810#16, 0x000F#16] [.a 0 0x00002000#32, .mem .b 0x2000 0x80]
      [.ccr 0x00#8, .pc 0x00001004#32] = true := by
  decide

/-- Row I6 of the spec: `BCHG #31,D0`. -/
theorem test_i6_bchg :
    after 0x1000 [0x0840#16, 0x001F#16] [.d 0 0x80000000#32]
      [.d 0 0x00000000#32, .ccr 0x00#8, .pc 0x00001004#32] = true := by
  decide

/-- Row I10 of the spec: `BSET D1,(A0)`. -/
theorem test_i10_bset_d1_a0 :
    after 0x1000 [0x03D0#16] [.d 1 0x00000003#32, .a 0 0x00002001#32, .mem .w 0x2000 0x0008]
      [.ccr 0x00#8, .mem .b 0x2001 0x08, .pc 0x00001002#32] = true := by
  decide

/-- Row I11 of the spec: `TAS (A0)`. -/
theorem test_i11_tas_a0 :
    after 0x1000 [0x4AD0#16] [.a 0 0x00002000#32, .ccr 0x13#8]
      [.ccr 0x14#8, .mem .b 0x2000 0x80, .pc 0x00001002#32] = true := by
  decide

/-- Row J1 of the spec: `ST D0`. -/
theorem test_j1_st_d0 :
    after 0x1000 [0x50C0#16] [.d 0 0x12345600#32, .ccr 0x1F#8]
      [.d 0 0x123456FF#32, .ccr 0x1F#8, .pc 0x00001002#32] = true := by
  decide

/-- Row J6 of the spec: `SLE -(A7)`. -/
theorem test_j6_sle_a7 :
    after 0x1000 [0x5FE7#16] [.ccr 0x04#8]
      [.a 7 0x00007FFE#32, .ccr 0x04#8, .mem .b 0x7FFE 0xFF, .pc 0x00001002#32] = true := by
  decide

/-- Row B3 of the spec: `BRA.S *+1 (disp8 = 0xFF)`. -/
theorem test_b3_bra_s :
    after 0x1000 [0x60FF#16] []
      [.ccr 0x00#8, .pc 0x00001000#32] = true := by
  decide

/-- Row B7 of the spec: `BSR.W *+$204`. -/
theorem test_b7_bsr_w :
    after 0x1000 [0x6100#16, 0x0202#16] [.a 7 0x00002000#32]
      [.a 7 0x00001FFC#32, .ccr 0x00#8, .mem .l 0x1FFC 0x00001004, .pc 0x00001204#32] = true := by
  decide

/-- Row B9 of the spec: `BEQ.S *+8`. -/
theorem test_b9_beq_s :
    after 0x1000 [0x6706#16] [.ccr 0x1B#8]
      [.ccr 0x1B#8, .pc 0x00001002#32] = true := by
  decide

/-- Row B10 of the spec: `BNE.W *+$12`. -/
theorem test_b10_bne_w :
    after 0x1000 [0x6600#16, 0x0010#16] [.ccr 0x04#8]
      [.ccr 0x04#8, .pc 0x00001004#32] = true := by
  decide

/-- Row B15 of the spec: `DBF D0,*-2`. -/
theorem test_b15_dbf_d0 :
    after 0x1000 [0x51C8#16, 0xFFFC#16] [.d 0 0x00050000#32]
      [.d 0 0x0005FFFF#32, .ccr 0x00#8, .pc 0x00001004#32] = true := by
  decide

/-- Row B17 of the spec: `DBEQ D0,*-2`. -/
theorem test_b17_dbeq_d0 :
    after 0x1000 [0x57C8#16, 0xFFFC#16] [.d 0 0x00000005#32, .ccr 0x00#8]
      [.d 0 0x00000004#32, .ccr 0x00#8, .pc 0x00000FFE#32] = true := by
  decide

/-- Row B19 of the spec: `JMP (A0)`. -/
theorem test_b19_jmp_a0 :
    after 0x1000 [0x4ED0#16] [.a 0 0x00002001#32]
      [.ccr 0x00#8, .pc 0x00002000#32] = true := by
  decide

/-- Row B25 of the spec: `JSR 6(A0,D0.W)`. -/
theorem test_b25_jsr :
    after 0x1000 [0x4EB0#16, 0x0006#16] [.a 0 0x00003000#32, .d 0 0x0000FFFE#32]
      [.a 7 0x00007FFC#32, .ccr 0x00#8, .mem .l 0x7FFC 0x00001004, .pc 0x00003004#32] = true := by
  decide

/-- Row B28 of the spec: `RTR`. -/
theorem test_b28_rtr :
    after 0x1000 [0x4E77#16] [.a 7 0x00001FFA#32, .sr 0x2700#16, .mem .w 0x1FFA 0xFFFF,
        .mem .l 0x1FFC 0x00003000]
      [.a 7 0x00002000#32, .ccr 0x1F#8, .pc 0x00003000#32] = true := by
  decide

/-- Row Y1 of the spec: `MOVE SR,D0`. -/
theorem test_y1_move_sr_d0 :
    after 0x1000 [0x40C0#16] [.sr 0x271F#16, .d 0 0xFFFFFFFF#32]
      [.d 0 0xFFFF271F#32, .ccr 0x1F#8, .pc 0x00001002#32] = true := by
  decide

/-- Row Y4 of the spec: `MOVE #$FFFF,SR`. -/
theorem test_y4_move_ffff_sr :
    after 0x1000 [0x46FC#16, 0xFFFF#16] [.mem .l 0x0024 0x00004900, .sr 0x2000#16]
      [.a 7 0x00007FFA#32, .sr 0x271F#16, .ccr 0x1F#8, .mem .l 0x7FFC 0x00001004, .mem .w 0x7FFA 0xA71F,
        .pc 0x00004900#32] = true := by
  decide

/-- Row Y5 of the spec: `MOVE #$0000,SR`. -/
theorem test_y5_move :
    after 0x1000 [0x46FC#16, 0x0000#16] [.sr 0x2700#16, .a 7 0x00008000#32, .usp 0x00006000#32]
      [.a 7 0x00006000#32, .ssp 0x00008000#32, .sr 0x0000#16, .ccr 0x00#8, .pc 0x00001004#32] = true := by
  decide

/-- Row Y6 of the spec: `MOVE D0,SR`. -/
theorem test_y6_move_d0_sr :
    after 0x1000 [0x46C0#16] [.mem .l 0x0020 0x00004800, .sr 0x0000#16, .a 7 0x00006000#32,
        .ssp 0x00008000#32, .d 0 0x00002700#32]
      [.a 7 0x00007FFA#32, .usp 0x00006000#32, .sr 0x2000#16, .ccr 0x00#8, .mem .l 0x7FFC 0x00001000,
        .mem .w 0x7FFA 0x0000, .pc 0x00004800#32] = true := by
  decide

/-- Row Y9 of the spec: `ANDI #$F8FF,SR`. -/
theorem test_y9_andi_f8ff_sr :
    after 0x1000 [0x027C#16, 0xF8FF#16] [.sr 0x2715#16]
      [.sr 0x2015#16, .ccr 0x15#8, .pc 0x00001004#32] = true := by
  decide

/-- Row Y15 of the spec: `MOVE A0,USP`. -/
theorem test_y15_move_a0_usp :
    after 0x1000 [0x4E60#16] [.a 0 0x00006000#32]
      [.usp 0x00006000#32, .ccr 0x00#8, .pc 0x00001002#32] = true := by
  decide

/-- Row Y20 of the spec: `STOP #$2000`. -/
theorem test_y20_stop :
    after 0x1000 [0x4E72#16, 0x2000#16] [.sr 0x2700#16]
      [.sr 0x2000#16, .ccr 0x00#8, .stopped true, .pc 0x00001004#32] = true := by
  decide

/-- Row Y23 of the spec: `RTE`. -/
theorem test_y23_rte :
    after 0x1000 [0x4E73#16] [.sr 0x2700#16, .a 7 0x00007FFA#32, .usp 0x00006000#32, .mem .w 0x7FFA 0x001F,
        .mem .l 0x7FFC 0x00002000]
      [.a 7 0x00006000#32, .ssp 0x00008000#32, .sr 0x001F#16, .ccr 0x1F#8, .pc 0x00002000#32] = true := by
  decide

/-- Row Y25 of the spec: `RTE`. -/
theorem test_y25_rte :
    after 0x1000 [0x4E73#16] [.mem .l 0x0020 0x00004800, .sr 0x8000#16, .a 7 0x00006000#32,
        .ssp 0x00008000#32]
      [.a 7 0x00007FFA#32, .usp 0x00006000#32, .sr 0xA000#16, .ccr 0x00#8, .mem .l 0x7FFC 0x00001000,
        .mem .w 0x7FFA 0x8000, .pc 0x00004800#32] = true := by
  decide

/-- Row Y26 of the spec: `TRAP #1`. -/
theorem test_y26_trap :
    after 0x1000 [0x4E41#16] [.mem .l 0x0084 0x00005100, .sr 0x2015#16]
      [.a 7 0x00007FFA#32, .ccr 0x15#8, .mem .l 0x7FFC 0x00001002, .mem .w 0x7FFA 0x2015,
        .pc 0x00005100#32] = true := by
  decide

/-- Row Y28 of the spec: `TRAPV`. -/
theorem test_y28_trapv :
    after 0x1000 [0x4E76#16] [.ccr 0x1D#8]
      [.ccr 0x1D#8, .pc 0x00001002#32] = true := by
  decide

/-- Row Y31 of the spec: `CHK D1,D0`. -/
theorem test_y31_chk_d1_d0 :
    after 0x1000 [0x4181#16] [.d 0 0x00000004#32, .d 1 0x00000004#32]
      [.flag .x false, .pc 0x00001002#32] = true := by
  decide

/-- Row Y33 of the spec: `ILLEGAL`. -/
theorem test_y33_illegal :
    after 0x1000 [0x4AFC#16] [.mem .l 0x0010 0x00004100]
      [.a 7 0x00007FFA#32, .ccr 0x00#8, .mem .l 0x7FFC 0x00001002, .mem .w 0x7FFA 0x2000,
        .pc 0x00004100#32] = true := by
  decide

/-- Row Y34 of the spec: `DC.W $4E74 (filler)`. -/
theorem test_y34_dc_w :
    after 0x1000 [0x4E74#16] [.mem .l 0x0010 0x00004100]
      [.a 7 0x00007FFA#32, .ccr 0x00#8, .mem .l 0x7FFC 0x00001002, .mem .w 0x7FFA 0x2000,
        .pc 0x00004100#32] = true := by
  decide

/-- Row Y35 of the spec: `DC.W $A100 (line A)`. -/
theorem test_y35_dc_w_a100_line_a :
    after 0x1000 [0xA100#16] [.mem .l 0x0028 0x00004A00]
      [.a 7 0x00007FFA#32, .ccr 0x00#8, .mem .l 0x7FFC 0x00001002, .mem .w 0x7FFA 0x2000,
        .pc 0x00004A00#32] = true := by
  decide

/-- Row U5 of the spec: `DC.W $A001`. -/
theorem test_u5_dc_w_a001 :
    after 0x1000 [0xA001#16] [.mem .l 0x0024 0x00004900, .sr 0xA000#16]
      [.a 7 0x00007FFA#32, .sr 0x2000#16, .ccr 0x00#8, .mem .l 0x7FFC 0x00001002, .mem .w 0x7FFA 0xA000,
        .event (.hostTrap (-2)), .pc 0x00004900#32] = true := by
  decide

/-- Row X4 of the spec: `TRAP #0, vector 32 zero, vector 15 set`. -/
theorem test_x4_trap :
    after 0x1000 [0x4E40#16] [.mem .l 0x003C 0x00004F00]
      [.a 7 0x00007FFA#32, .ccr 0x00#8, .mem .l 0x7FFC 0x00001002, .mem .w 0x7FFA 0x2000,
        .pc 0x00004F00#32] = true := by
  decide

/-- Row X7 of the spec: `NOP, interrupt pending (supervisor, mask 7)`. -/
theorem test_x7_nop_interrupt_pending_su :
    after 0x1000 [0x4E71#16] [.mem .l 0x0008 0x00004200, .sr 0x2700#16, .irq true, .d 0 0x00000001#32,
        .mem .w 0x4200 0x5240]
      [.d 0 0x00000002#32, .a 7 0x00007FFA#32, .ccr 0x00#8, .mem .l 0x7FFC 0x00001000,
        .mem .w 0x7FFA 0x2700, .irq false, .pc 0x00004202#32] = true := by
  decide

/-- Row X8 of the spec: `NOP, interrupt pending (user)`. -/
theorem test_x8_nop_interrupt_pending_us :
    after 0x1000 [0x4E71#16] [.mem .l 0x0008 0x00004200, .sr 0x0010#16, .a 7 0x00006000#32,
        .ssp 0x00008000#32, .irq true, .mem .w 0x4200 0x4E71]
      [.a 7 0x00007FFA#32, .usp 0x00006000#32, .sr 0x2010#16, .ccr 0x10#8, .mem .l 0x7FFC 0x00001000,
        .mem .w 0x7FFA 0x0010, .irq false, .pc 0x00004202#32] = true := by
  decide

/-- Row X12 of the spec: `TRAP #1 with the supervisor stack in ROM`. -/
theorem test_x12_trap :
    after 0x1000 [0x4E41#16] [.mem .l 0x0084 0x00005100, .a 7 0x00038000#32]
      [.a 7 0x00037FFA#32, .ccr 0x00#8, .pc 0x00005100#32] = true := by
  decide

/-- A zero divisor (R260), the frame dropped in ROM so that the free flags of the stacked word stay out of
memory: vector 5 is taken, `C` is clear, `X` is kept, the divided register is unchanged. -/
theorem test_divu_by_zero :
    after 0x1000 [0x80C1#16] [.d 0 0x12345678#32, .a 7 0x38000#32, .ccr 0x11#8, .mem .l 0x14 0x4000]
      [.d 0 0x12345678#32, .a 7 0x37FFA#32, .flag .x true, .flag .c false, .pc 0x4000#32] = true := by
  decide

/-- CHK above its bound (R343), the frame dropped in ROM: vector 6 with `N` clear and `X` kept. -/
theorem test_chk_above_the_bound :
    after 0x1000 [0x4181#16] [.d 0 5#32, .d 1 4#32, .a 7 0x38000#32, .ccr 0x18#8, .mem .l 0x18 0x4600]
      [.d 0 5#32, .a 7 0x37FFA#32, .flag .x true, .flag .n false, .pc 0x4600#32] = true := by
  decide

/-- Row X5: both vectors zero is `Fatal(32)`, `pc` unchanged, the frame pushed. -/
theorem test_x5_fatal :
    (match step (given 0x1000 [0x4E40#16] []) with
      | .fault (.fatal v t) => decide (v = 32) && decide (t.areg 7 = 0x7FFA#32) && decide (t.pcb = 0x1002#32)
          && decide (t.memRead .l 0x7FFC#32 = 0x1002#32)
      | _ => false) = true := by
  decide

/-- Row X9: a pending interrupt with both vectors zero is `Fatal(2)`, the latch cleared. -/
theorem test_x9_fatal_interrupt :
    (match step (given 0x1000 [0x4E71#16] [.irq true]) with
      | .fault (.fatal v t) => decide (v = 2) && decide (t.pcb = 0x1000#32) && !t.irqPending
      | _ => false) = true := by
  decide

/-- The sentinel of the band (R362) ends the run with `Stop`. -/
theorem test_stop_sentinel :
    meets (step (given 0x1000 [0xA0FF#16] [])) (fun t => decide (t.outcome = .stop) && decide (t.pcb = 0x1002#32))
      = true := by
  decide

/-- A stopped machine (R152): nothing is fetched. -/
theorem test_stopped_idles :
    after 0x1000 [0x7001#16] [.stopped true] [.d 0 0#32, .pc 0x1000#32, .stopped true] = true := by
  decide

/-- Q2, cycle 4: the interrupt ends the stopped state, its frame holds the address after the STOP, and its
first instruction (RTE) runs in the same step. -/
theorem test_q2_interrupt_after_stop :
    after 0x1004 [] [.mem .l 8 0x4200, .mem .w 0x4200 0x4E73, .stopped true, .irq true]
      [.pc 0x1004#32, .stopped false, .irq false, .a 7 0x8000#32, .mem .l 0x7FFC 0x1004, .mem .w 0x7FFA 0x2000]
      = true := by
  decide

/-- Q1, cycle 3: RTE that restores `T = 1` is not itself traced. -/
theorem test_q1_rte_untraced :
    after 0x4900 [0x4E73#16] [.a 7 0x7FFA#32, .mem .w 0x7FFA 0xA000, .mem .l 0x7FFC 0x1002, .mem .l 0x24 0x4900]
      [.a 7 0x8000#32, .sr 0xA000#16, .pc 0x1002#32] = true := by
  decide

/-! The memory store: rows M1 to M21. -/

/-- The store of `State.reset` after one write. -/
def wrote (sz : Size) (a v : Long) : State := State.reset.memWrite sz a v

theorem test_m1_big_endian :
    (wrote .l 0x2000#32 0x11223344#32).memRead .b 0x2000#32 = 0x11#32
    ∧ (wrote .l 0x2000#32 0x11223344#32).memRead .b 0x2001#32 = 0x22#32
    ∧ (wrote .l 0x2000#32 0x11223344#32).memRead .w 0x2002#32 = 0x3344#32 := by
  decide

theorem test_m2_cutoff_alias :
    (wrote .w 0xFF002000#32 0xCAFE#32).memRead .w 0x12002000#32 = 0xCAFE#32
    ∧ (wrote .w 0xFF002000#32 0xCAFE#32).memRead .l 0xFF002000#32 = 0xCAFE0000#32 := by
  decide

theorem test_m4_m5_odd_addresses :
    ((wrote .w 0x2001#32 0xBEEF#32).memWrite .l 0x2003#32 0x01020304#32).memRead .l 0x2000#32 = 0xBEEF0102#32
    ∧ ((wrote .w 0x2001#32 0xBEEF#32).memWrite .l 0x2003#32 0x01020304#32).memRead .l 0x2003#32
      = 0x01020304#32 := by
  decide

theorem test_m6_m7_bytes :
    (wrote .b 0x2003#32 0x1A5#32).memRead .w 0x2002#32 = 0x00A5#32
    ∧ (wrote .b 0x2002#32 0xA5#32).memRead .w 0x2002#32 = 0xA500#32 := by
  decide

theorem test_m8_m10_readable_boundary :
    (State.reset.bulkWrite 0x3FFFC#32 [0xDE#8, 0xAD#8, 0xBE#8, 0xEF#8]).memRead .b 0x3FFFF#32 = 0xEF#32
    ∧ (State.reset.bulkWrite 0x3FFFC#32 [0xDE#8, 0xAD#8, 0xBE#8, 0xEF#8]).memRead .w 0x3FFFF#32 = 0xBEEF#32
    ∧ (State.reset.bulkWrite 0x3FFFC#32 [0xDE#8, 0xAD#8, 0xBE#8, 0xEF#8]).memRead .l 0x3FFFD#32
      = 0xDEADBEEF#32
    ∧ (State.reset.bulkWrite 0x3FFFC#32 [0xDE#8, 0xAD#8, 0xBE#8, 0xEF#8]).memRead .l 0x3FFFE#32 = 0#32 := by
  decide

theorem test_m11_m16_dropped_writes :
    wrote .b 0x30000#32 0x55#32 = State.reset ∧ wrote .l 0x40000#32 1#32 = State.reset
    ∧ wrote .b 0x00FFFFFF#32 1#32 = State.reset ∧ wrote .l 0x2FFFE#32 0xABCD1234#32 = State.reset := by
  decide +kernel

theorem test_m12_m20_screen_events :
    (wrote .b 0x2FFFF#32 0x77#32).events = [.screenWrite .b 0x2FFFF 0x77#32]
    ∧ (wrote .l 0x2FFFC#32 0xABCD1234#32).events = [.screenWrite .l 0x2FFFC 0xABCD1234#32]
    ∧ (wrote .b 0x27FFF#32 0x11#32).events = [] ∧ (wrote .l 0x27FFE#32 0xAABBCCDD#32).events = []
    ∧ (wrote .w 0x28001#32 0x1234#32).events = [.screenWrite .w 0x28000 0x1234#32]
    ∧ (wrote .l 0xFF028000#32 0x01020304#32).events = [.screenWrite .l 0x28000 0x01020304#32] := by
  decide

theorem test_m21_bulk_path_writes_rom :
    (State.reset.bulkWrite 0x2FFFE#32 [1#8, 2#8, 3#8, 4#8]).memRead .w 0x30000#32 = 0x0304#32
    ∧ (State.reset.bulkWrite 0x2FFFE#32 [1#8, 2#8, 3#8, 4#8]).events = [.regionChanged 0x2FFFE#32 4] := by
  decide

/-- Writing back what an unlisted byte reads as removes the entry. -/
theorem test_memory_is_canonical :
    (wrote .b 0x2000#32 1#32).memWrite .b 0x2000#32 0#32 = State.reset := by
  decide +kernel

/-! The host: rows L1 to L9 and Z2, Z4. -/

/-- A handler of a class. -/
def handlerOf (c : Nat) : IrqHandler := { cls := c, level := 2, handler := c }

theorem test_l1_l3_registry :
    registerResult (handlerOf 0) State.reset = 0
    ∧ registerResult (handlerOf 1) (registerHandler (handlerOf 0) State.reset) = 1
    ∧ registerResult (handlerOf 0) (registerHandler (handlerOf 0) State.reset) = -1 := by
  decide

theorem test_l4_l8_registry :
    (unregisterHandler 0 (registerHandler (handlerOf 0) State.reset)).irqSlots = State.reset.irqSlots
    ∧ unregisterHandler 12 State.reset = State.reset
    ∧ (hostCall (.generateInterruptAt 9) State.reset).irqPending = true := by
  decide +kernel

theorem test_l9_eleventh_is_refused :
    registerResult (handlerOf 10)
      ((List.range 10).foldl (fun s k => registerHandler (handlerOf k) s) State.reset) = -1 := by
  decide

theorem test_z2_z4_reset :
    ((hostReset ((wrote .l 0#32 0xFF008001#32).memWrite .l 4#32 0xFF030001#32)).areg 7 = 0xFF008001#32)
    ∧ (hostReset ((wrote .l 0#32 0xFF008001#32).memWrite .l 4#32 0xFF030001#32)).pcb = 0xFF030000#32
    ∧ (hostReset { State.reset with sr := StatusReg.ofWord 0x801F#16, irqPending := true, stopped := true }).sr.toWord
      = 0x2700#16 := by
  decide

/-! The float bridge: rows FC and FB. -/

theorem test_fc1_fc5_to_double :
    toDouble Config.testT 0x0801#16 0x40000000#32 = some 0x3FF0000000000000#64
    ∧ toDouble Config.testT 0x0802#16 0xA0000000#32 = some 0xC008000000000000#64
    ∧ toDouble Config.testT 0x007B#16 0x86A80000#32 = some 0x4076800000000000#64
    ∧ toDouble Config.testT 0x1234#16 0#32 = some 0#64 := by
  decide +kernel

theorem test_fc6_fc13_rejected :
    toDouble Config.testT 0x007B#16 0x86A80001#32 = none ∧ toDouble Config.testT 0x0402#16 0x40000000#32 = none
    ∧ toDouble Config.testT 0x0C00#16 0x40000000#32 = none
    ∧ toDouble Config.testT 0x1801#16 0x40000000#32 = none := by
  decide +kernel

theorem test_fc18_fc35_to_guest :
    toGuest 0xBFF0000000000000#64 = some (0x0800#16, 0x80000000#32)
    ∧ toGuest 0x3FB999999999999A#64 = some (0x07FD#16, 0x66666666#32)
    ∧ toGuest 0x3FFFFFFFFFFFFFFF#64 = some (0x0801#16, 0x7FFFFFFF#32)
    ∧ toGuest 0x7FF0000000000000#64 = none ∧ toGuest 1#64 = none
    ∧ toGuest 0x8000000000000000#64 = some (0#16, 0#32) := by
  decide +kernel

/-- A guest float in memory. -/
def float (addr e m : Nat) : List Fact := [.mem .w addr e, .mem .l (addr + 2) m]

/-- The facts of the FB rows: the bridge word at `0x1000`, two floats at `A1 = 0x2000`, the caller's return
address `0x1008` on the stack. -/
def bridgeFacts (e1 m1 e2 m2 : Nat) : List Fact :=
  [.a 1 0x2000#32, .a 7 0x7FFC#32, .ccr 0x15#8, .mem .l 0x7FFC 0x1008] ++ float 0x2000 e1 m1 ++ float 0x2006 e2 m2

/-- Row FB2: 1 over 3. -/
theorem test_fb2_div_stack :
    after 0x1000 [0xA011#16] (bridgeFacts 0x0801 0x40000000 0x0802 0x60000000)
      ([.a 1 0x2006#32, .a 7 0x8000#32, .ccr 0x15#8, .pc 0x1008#32] ++ float 0x2006 0x07FF 0x55555555) = true := by
  decide +kernel

/-- Row FB3: the square root of 2. -/
theorem test_fb3_sqrt_acc :
    after 0x1000 [0xA012#16] (bridgeFacts 0x0802 0x40000000 0 0)
      ([.a 1 0x2000#32, .a 7 0x8000#32, .pc 0x1008#32] ++ float 0x2000 0x0801 0x5A827999) = true := by
  decide +kernel

/-- Row FB5: the square root of -1 falls back. -/
theorem test_fb5_sqrt_falls_back :
    after 0x1000 [0xA012#16] (bridgeFacts 0x0800 0x80000000 0 0)
      ([.a 1 0x2000#32, .a 7 0x7FFC#32, .ccr 0x15#8, .pc 0x3200#32] ++ float 0x2000 0x0800 0x80000000) = true := by
  decide +kernel

/-! Reset (R46, R470). -/

theorem test_reset_values :
    State.reset.sr.toWord = 0x2700#16 ∧ State.reset.pc = 0#31 ∧ State.reset.mem.cells = []
    ∧ State.reset.stopped = false ∧ State.reset.irqPending = false := by
  decide

/-- The first instruction after reset, as the host places it. -/
theorem test_first_instruction :
    meets (step (State.reset.withFetchWord 16 0x70FF)) (fun t => decide (t.dreg 0 = 0xFFFFFFFF#32)) = true := by
  decide

/-! Decoding: words written out from the formats of R104 and the rows of R112, group by group. -/

/-- Decoding of a word and its extension words under configuration T. -/
def dec (w : Word) (ext : List Word) : Instr := decodeWord Config.testT.band w ext

/-- Group 0. Immediate `0000 0110 ssmm mrrr`, bit `0000 ddd1 ttmm mrrr`, MOVEP `0000 ddd1 DS00 1aaa`. -/
theorem test_decode_group_0 :
    dec 0b0000011001010010#16 [0x1234#16] = .addiW 0x1234#16 (.ind 2)
    ∧ dec 0b0000111101011011#16 [] = .bchgReg 7 (.postInc 3)
    ∧ dec 0b0000000111001001#16 [0xFFFE#16] = .movepStoreL 0 1 0xFFFE#16
    ∧ dec 0b0000001101001000#16 [2#16] = .movepLoadL 1 0 2#16
    ∧ dec 0b0000101001111100#16 [0x2000#16] = .eoriToSr 0x2000#16 := by
  decide

/-- Groups 1 to 3: MOVE `00 MSZ dreg dmode mode reg`, the source's words first. -/
theorem test_decode_groups_1_to_3 :
    dec 0b0001111100000000#16 [] = .moveB (.dn 0) (.preDec 7)
    ∧ dec 0b0010001111111010#16 [4#16, 1#16, 0x8000#16] = .moveL (.pcDisp 4#16) (.absL 0x18000#32)
    ∧ dec 0b0011010001000101#16 [] = .moveaW (.dn 5) 2 := by
  decide

/-- Group 4, the formats with one operand, and the fixed words. -/
theorem test_decode_group_4 :
    dec 0b0100001111101000#16 [4#16] = .lea (.disp 0 4#16) 1
    ∧ dec 0b0100100001000011#16 [] = .swap 3
    ∧ dec 0b0100110011011111#16 [3#16] = .movemLoadL 3#16 (.postInc 7)
    ∧ dec 0b0100111001010110#16 [0xFFF8#16] = .link 6 0xFFF8#16
    ∧ dec 0b0100111001101001#16 [] = .moveFromUsp 1
    ∧ dec 0b0100111001110011#16 [] = .rte
    ∧ dec 0b0100000110000001#16 [] = .chk (.dn 1) 0 := by
  decide

/-- Groups 5 to 7: ADDQ `0101 qqq0 ssmm mrrr`, Scc, DBcc, Bcc, MOVEQ. -/
theorem test_decode_groups_5_to_7 :
    dec 0b0101000001001000#16 [] = .addqW 0#3 (.an 0)
    ∧ dec 0b0101111111100111#16 [] = .sle (.preDec 7)
    ∧ dec 0b0101011111001000#16 [0xFFFC#16] = .dbeq 0 0xFFFC#16
    ∧ dec 0b0110011100000110#16 [] = .beq (.short 6#8)
    ∧ dec 0b0110000100000000#16 [0x202#16] = .bsr (.word 0x202#16)
    ∧ dec 0b0110000011111111#16 [] = .bra (.short 0xFF#8)
    ∧ dec 0b0111011010000000#16 [] = .moveq 3 0x80#8 := by
  decide

/-- Groups 8 to D: `gggg ddd ooo mmm rrr`, and the two-register forms `RX_RY`. -/
theorem test_decode_groups_8_to_d :
    dec 0b1000000111000001#16 [] = .divs (.dn 1) 0
    ∧ dec 0b1000001100001000#16 [] = .sbcd .predec 0 1
    ∧ dec 0b1001000110010000#16 [] = .subDnEaL 0 (.ind 0)
    ∧ dec 0b1011000100001001#16 [] = .cmpmB 1 0
    ∧ dec 0b1011001110000000#16 [] = .eorL 1 (.dn 0)
    ∧ dec 0b1100000110001001#16 [] = .exgDA 0 1
    ∧ dec 0b1101000011000000#16 [] = .addaW (.dn 0) 0
    ∧ dec 0b1101001100001000#16 [] = .addxB .predec 0 1 := by
  decide

/-- Group E: register shifts `1110 ccc d ss i tt rrr`, memory shifts `1110 0tt d 11 mmm rrr`. -/
theorem test_decode_group_e :
    dec 0b1110000101000000#16 [] = .aslRegW (.imm 0#3) 0
    ∧ dec 0b1110001010110000#16 [] = .roxrRegL (.reg 1) 0
    ∧ dec 0b1110011111011000#16 [] = .rolMem (.postInc 0) := by
  decide

/-- The lines A and F, the band, the filler: a reserved combination goes to no neighbour (R113 to R117). -/
theorem test_decode_lines_and_filler :
    dec 0xA000#16 [] = .hosttrap 0xA000#16 ∧ dec 0xA0FF#16 [] = .hosttrap 0xA0FF#16
    ∧ dec 0xA100#16 [] = .linea 0x100#12 ∧ dec 0xF123#16 [] = .linef 0x123#12
    ∧ dec 0x4AFC#16 [] = .illegal ∧ dec 0x4E74#16 [] = .illegalFiller 0x4E74#16
    ∧ dec 0x1048#16 [] = .illegalFiller 0x1048#16 ∧ dec 0x7100#16 [] = .illegalFiller 0x7100#16 := by
  decide

/-- A truncated instruction is refused by name. -/
theorem test_decode_truncated : decode Config.testT.band [0x4E#8] ≠ .ok (.nop, []) := by decide

/-! Ill-formed terms, one for each check of `WellFormed.lean`. -/

/-- The band of configuration T. -/
def tBand : HostBand := Config.testT.band

theorem test_wf_byte_of_address_register : (Instr.moveB (.an 1) (.dn 0)).wf tBand = false := by decide

theorem test_wf_data_category : (Instr.mulu (.an 1) 0).wf tBand = false := by decide

theorem test_wf_data_alterable_category :
    (Instr.clrW (.pcDisp 2#16)).wf tBand = false ∧ (Instr.moveW (.dn 0) (.imm 1#32)).wf tBand = false := by
  decide

theorem test_wf_memory_alterable_category : (Instr.aslMem (.dn 0)).wf tBand = false := by decide

theorem test_wf_alterable_category : (Instr.addqL 1#3 (.imm 1#32)).wf tBand = false := by decide

theorem test_wf_control_category :
    (Instr.lea (.postInc 0) 1).wf tBand = false ∧ (Instr.jmp (.dn 0)).wf tBand = false := by
  decide

theorem test_wf_control_alterable_or_predecrement :
    (Instr.movemStoreW 1#16 (.postInc 0)).wf tBand = false := by decide

theorem test_wf_control_or_postincrement : (Instr.movemLoadW 1#16 (.preDec 0)).wf tBand = false := by decide

theorem test_wf_bit_test_without_immediate : (Instr.btstImm 0#8 (.imm 1#32)).wf tBand = false := by decide

theorem test_wf_immediate_size :
    (Instr.addEaDnB (.imm 0x100#32) 0).wf tBand = false ∧ (Instr.addEaDnW (.imm 0x10000#32) 0).wf tBand = false := by
  decide

theorem test_wf_short_branch : (Instr.bra (.short 0#8)).wf tBand = false := by decide

theorem test_wf_host_trap : (Instr.hosttrap 0xA100#16).wf tBand = false := by decide

theorem test_wf_lines : (Instr.linea 0x0FF#12).wf tBand = false := by decide

theorem test_wf_filler : (Instr.illegalFiller 0x4E71#16).wf tBand = false := by decide

theorem test_wf_band :
    ({ base := 0xA000, count := 0x100, stop := 0xA100#16 } : HostBand).wf = false
    ∧ ({ base := 0x4E70, count := 1, stop := 0x4E70#16 } : HostBand).wf = false
    ∧ ({ base := 0xFFFF, count := 2, stop := 0xFFFF#16 } : HostBand).wf = false := by
  decide

theorem test_wf_bridge_opcode :
    Config.testT.fpOps.all (fun op => op.wf tBand && !FpOp.wf tBand { op with opcode := 0xA0FF#16 }
      && !FpOp.wf tBand { op with opcode := 0xA100#16 }) = true := by
  decide

/-- A configuration that is refused: each of these changes one parameter of configuration T. -/
theorem test_wf_config :
    ({ Config.testT with cutoffMask := 0x00FFFFFE#32 } : Config).wf = false
    ∧ ({ Config.testT with ramSize := 0 } : Config).wf = false
    ∧ ({ Config.testT with linkageLength := 0x10000 } : Config).wf = false
    ∧ ({ Config.testT with screenStop := 0x30002 } : Config).wf = false
    ∧ ({ Config.testT with totalRamSize := 0x40002 } : Config).wf = false
    ∧ ({ Config.testT with totalMemSize := 0x40001 } : Config).wf = false
    ∧ ({ Config.testT with extIntVector := 256 } : Config).wf = false
    ∧ ({ Config.testT with intLevel := 0#3 } : Config).wf = false
    ∧ ({ Config.testT with fpPtrReg := 7 } : Config).wf = false
    ∧ ({ Config.testT with fpExpLo := 0x3EC } : Config).wf = false
    ∧ ({ Config.testT with fpExpHi := 0xC00 } : Config).wf = false := by
  decide +kernel

theorem test_wf_config_t : Config.testT.wf = true := by decide +kernel

/-! Witnesses: for each statement with hypotheses, a state and operands that meet them together. -/

open Sys2Proof.Claims

/-- Two supervisor states with `NOP` next, one of them with trace set. -/
def nopState : State := given 0x1000 [0x4E71#16] []
def tracedNop : State := given 0x1000 [0x4E71#16] [.sr 0xA000#16]

/-- A user state with `A7 = 0x6000` and a supervisor stack. -/
def userState : State := given 0x1000 [0x4E71#16] [.sr 0#16, .a 7 0x6000#32, .ssp 0x8000#32]

/-- A state with every vector from 2 to 47 at `0x4000`. -/
def withVectors (s : State) : State :=
  (List.range 46).foldl (fun t k => Fact.give (.mem .l (4 * (k + 2)) 0x4000) t) s

theorem clearOfBand_nop : ClearOfBand tBand .nop :=
  ⟨fun h => absurd h (by decide), fun ⟨_, h⟩ => nomatch h⟩

theorem witness_DecodeOfEncodeIsTheInstruction :
    ((Instr.nop).wf tBand = true ∧ ClearOfBand tBand .nop)
    ∧ ((Instr.moveL (.imm 0xFFFFFFFF#32) (.absL 0xFFFFFFFF#32)).wf tBand = true
      ∧ ClearOfBand tBand (.moveL (.imm 0xFFFFFFFF#32) (.absL 0xFFFFFFFF#32)))
    ∧ ((Instr.hosttrap 0xA0FF#16).wf tBand = true ∧ ClearOfBand tBand (.hosttrap 0xA0FF#16))
    ∧ ((Instr.linea 0x100#12).wf tBand = true ∧ ClearOfBand tBand (.linea 0x100#12)) :=
  ⟨⟨by decide, clearOfBand_nop⟩,
    ⟨by decide, ⟨fun h => absurd h (by decide), fun ⟨_, h⟩ => nomatch h⟩⟩,
    ⟨by decide, ⟨fun _ => ⟨_, rfl⟩, fun _ => by decide⟩⟩,
    ⟨by decide, ⟨fun h => absurd h (by decide), fun ⟨_, h⟩ => nomatch h⟩⟩⟩

theorem witness_FillerIsExactlyTheUnclaimedWords :
    (tBand.contains 0x4AFB#16 = false ∧ fillerWord 0x4AFB#16 = true)
    ∧ (tBand.contains 0x4AFC#16 = false ∧ fillerWord 0x4AFC#16 = false)
    ∧ (tBand.contains 0xA100#16 = false ∧ fillerWord 0xA100#16 = false) := by
  decide

theorem witness_StepRunsTheDecodedInstruction :
    NoCall nopState ∧ interruptTaken (boundary nopState) = false ∧ nopState.stopped = false
    ∧ decodeWord nopState.config.band (opcodeAt nopState)
        [nopState.streamWord 1, nopState.streamWord 2, nopState.streamWord 3, nopState.streamWord 4] = .nop :=
  ⟨rfl, by decide, by decide, by decide⟩

theorem witness_StepRunsTheEncodedInstruction :
    NoCall nopState ∧ interruptTaken (boundary nopState) = false ∧ nopState.stopped = false
    ∧ (Instr.nop).wf nopState.config.band = true ∧ ClearOfBand nopState.config.band .nop
    ∧ StreamHolds nopState (encode .nop) :=
  ⟨rfl, by decide, by decide, by decide, clearOfBand_nop, by unfold StreamHolds; decide⟩

/-- A stopped state. -/
def stoppedState : State := given 0x1000 [0x4E71#16] [.stopped true]

theorem witness_StoppedMachineIdles :
    NoCall stoppedState ∧ stoppedState.stopped = true ∧ interruptTaken (boundary stoppedState) = false :=
  ⟨rfl, by decide, by decide⟩

/-- A pending interrupt in user mode, with a handler. -/
def pendingState : State := given 0x1000 [0x4E71#16] [.sr 0x0100#16, .ssp 0x8000#32, .irq true, .mem .l 8 0x4200]

/-- The same with gating on: the mask is one below the level of the request. -/
def gatedState : State := { pendingState with config := { pendingState.config with intMaskGating := true } }

/-- The same with no handler. -/
def orphanState : State := given 0x1000 [0x4E71#16] [.irq true]

theorem witness_PendingInterruptIsTakenFirst :
    (NoCall pendingState ∧ pendingState.irqPending = true
      ∧ (pendingState.config.intMaskGating = true → pendingState.sr.i.toNat < pendingState.config.intLevel.toNat)
      ∧ ({ boundary pendingState with irqPending := false, stopped := false } : State).entryState.vectorTarget
          pendingState.config.extIntVector ≠ 0#32)
    ∧ (NoCall gatedState ∧ gatedState.irqPending = true
      ∧ (gatedState.config.intMaskGating = true → gatedState.sr.i.toNat < gatedState.config.intLevel.toNat)
      ∧ ({ boundary gatedState with irqPending := false, stopped := false } : State).entryState.vectorTarget
          gatedState.config.extIntVector ≠ 0#32)
    ∧ (NoCall orphanState ∧ orphanState.irqPending = true
      ∧ (orphanState.config.intMaskGating = true → orphanState.sr.i.toNat < orphanState.config.intLevel.toNat)
      ∧ ({ boundary orphanState with irqPending := false, stopped := false } : State).entryState.vectorTarget
          orphanState.config.extIntVector = 0#32) :=
  ⟨⟨rfl, by decide, by decide, by decide⟩, ⟨rfl, by decide, by decide, by decide⟩,
    ⟨rfl, by decide, by decide, by decide⟩⟩

/-- A state with `TRAP #1` next. -/
def trapState : State := given 0x1000 [0x4E41#16] []

/-- A state with `RTE` next and a frame that sets `T`. -/
def rteState : State := given 0x1000 [0x4E73#16] [.a 7 0x7FFA#32, .mem .w 0x7FFA 0xA000, .mem .l 0x7FFC 0x2000]

theorem witness_TraceFollowsTheInstruction :
    (NoCall tracedNop ∧ interruptTaken (boundary tracedNop) = false ∧ tracedNop.stopped = false
      ∧ (∃ t, runInstr (boundary tracedNop) = .next t ∧ t.sr.t = true) ∧ opcodeAt tracedNop ≠ 0x4E73#16)
    ∧ (NoCall nopState ∧ interruptTaken (boundary nopState) = false ∧ nopState.stopped = false
      ∧ ∃ t, runInstr (boundary nopState) = .next t ∧ (!t.sr.t) = true)
    ∧ (NoCall rteState ∧ interruptTaken (boundary rteState) = false ∧ rteState.stopped = false
      ∧ (∃ t, runInstr (boundary rteState) = .next t ∧ t.sr.t = true) ∧ opcodeAt rteState = 0x4E73#16)
    ∧ (NoCall trapState ∧ interruptTaken (boundary trapState) = false ∧ trapState.stopped = false
      ∧ fetchInstr (boundary trapState) = .trap 1#4) :=
  ⟨⟨rfl, by decide, by decide, meets_next (by decide), by decide⟩,
    ⟨rfl, by decide, by decide, meets_next (p := fun t => !t.sr.t) (by decide)⟩,
    ⟨rfl, by decide, by decide, meets_next (by decide), by decide⟩,
    ⟨rfl, by decide, by decide, by decide⟩⟩

theorem witness_SupervisorInstructionsHaveTheirEffect :
    nopState.sr.s = true ∧ (Instr.moveToSr (.postInc 7)).wf nopState.config.band = true := by
  decide

/-- Leaving supervisor mode by ANDI to SR, and entering it by a trap. -/
theorem witness_SetSrSwapsWithTheSupervisorBit :
    (nopState.sr.s = true ∧ (Instr.moveToSr (.postInc 7)).wf nopState.config.band = true)
    ∧ (∃ t, exec (.andiToSr 0x0700#16) nopState = .next t ∧ t.sr.s = false)
    ∧ ∃ s t : State, s.sr.s = false ∧ exec (.trap 1#4) s = .next t ∧ t.sr.s = true :=
  ⟨by decide, ⟨_, rfl, by decide⟩, given 0x1000 [0x4E41#16] [.sr 0x001F#16, .ssp 0x8000#32, .mem .l 0x84 0x5100],
    _, by decide, rfl, by decide⟩

theorem witness_ConditionCodesAreReadAndWritten :
    (Instr.moveFromSr (.preDec 7)).wf nopState.config.band = true := by
  decide

theorem witness_ExceptionEntryAndPrivilegePath :
    (withVectors nopState).entryState.vectorTarget 33 ≠ 0#32 ∧ nopState.entryState.vectorTarget 33 = 0#32
    ∧ (withVectors userState).privilegeState.vectorTarget 8 ≠ 0#32
    ∧ userState.privilegeState.vectorTarget 8 = 0#32 := by
  decide +kernel

theorem witness_PrivilegedInstructionsTrapInUserMode :
    (IsPrivileged .rte ∧ IsPrivileged .reset ∧ IsPrivileged (.stop 0x2700#16) ∧ IsPrivileged (.moveToSr (.dn 0))
      ∧ IsPrivileged (.andiToSr 0#16) ∧ IsPrivileged (.oriToSr 0#16) ∧ IsPrivileged (.eoriToSr 0#16)
      ∧ IsPrivileged (.moveToUsp 7) ∧ IsPrivileged (.moveFromUsp 7))
    ∧ ((withVectors userState).sr.s = false ∧ (withVectors userState).privilegeState.vectorTarget 8 ≠ 0#32)
    ∧ (userState.sr.s = false ∧ userState.privilegeState.vectorTarget 8 = 0#32) := by
  refine ⟨?_, by decide +kernel, by decide +kernel⟩
  simp [IsPrivileged]

/-- A state with `V` set. -/
def overflowState : State := given 0x1000 [0x4E76#16] [.ccr 2#8]

theorem witness_TrapInstructionsTakeTheirVector :
    overflowState.sr.ccr.v = true ∧ overflowState.entryState.vectorTarget 7 = 0#32
    ∧ (withVectors overflowState).sr.ccr.v = true ∧ (withVectors overflowState).entryState.vectorTarget 7 ≠ 0#32
    ∧ nopState.sr.ccr.v = false
    ∧ (List.range 16).all (fun k => decide ((withVectors nopState).entryState.vectorTarget (32 + k) ≠ 0#32))
      = true := by
  decide +kernel

/-- `D0` against the bound in `D1`. -/
def chkState (v b : Long) : State := given 0x1000 [0x4181#16] [.d 0 v, .d 1 b]

theorem witness_ChkTrapsOutOfBounds :
    (0 ≤ sval .w ((chkState 0#32 0#32).dreg 0)
      ∧ sval .w ((chkState 0#32 0#32).dreg 0) ≤ sval .w (operand (.dn 1) .w (chkState 0#32 0#32)))
    ∧ (0 ≤ sval .w ((chkState 0x7FFF#32 0x7FFF#32).dreg 0) ∧ sval .w ((chkState 0x7FFF#32 0x7FFF#32).dreg 0)
        ≤ sval .w (operand (.dn 1) .w (chkState 0x7FFF#32 0x7FFF#32)))
    ∧ sval .w ((chkState 0xFFFF#32 5#32).dreg 0) < 0
    ∧ (0 ≤ sval .w ((chkState 6#32 5#32).dreg 0)
      ∧ sval .w (operand (.dn 1) .w (chkState 6#32 5#32)) < sval .w ((chkState 6#32 5#32).dreg 0))
    ∧ (0 ≤ sval .w ((chkState 0#32 0xFFFF#32).dreg 0)
      ∧ sval .w (operand (.dn 1) .w (chkState 0#32 0xFFFF#32)) < sval .w ((chkState 0#32 0xFFFF#32).dreg 0)) := by
  decide

theorem witness_ZeroDivisorTakesVectorFive :
    uval .w (operand (.dn 1) .w (chkState 7#32 0x10000#32)) = 0 ∧ (EA.dn 1).wf .w = true := by
  decide

theorem witness_RteRestoresStatusAndAddress : rteState.sr.s = true := by decide

/-- A trap taken in user mode and one taken in supervisor mode, with their vectors set. -/
def userTrap : State := given 0x1000 [0x4E41#16] [.sr 0x801F#16, .ssp 0x8000#32, .mem .l 0x84 0x5100]
def superTrap : State := given 0x1000 [0x4E41#16] [.mem .l 0x84 0x5100]

theorem witness_RteUndoesAnExceptionEntry :
    (userTrap.config.totalRamSize ≤ userTrap.config.totalMemSize
      ∧ userTrap.writable .l (stackBase userTrap - 4#32) = true
      ∧ userTrap.writable .w (stackBase userTrap - 6#32) = true
      ∧ (accessAddr userTrap.config .w (stackBase userTrap - 6#32) + 2
          ≤ accessAddr userTrap.config .l (stackBase userTrap - 4#32)
        ∨ accessAddr userTrap.config .l (stackBase userTrap - 4#32) + 4
          ≤ accessAddr userTrap.config .w (stackBase userTrap - 6#32))
      ∧ ∃ t, enterException 33 userTrap = .next t ∧ t.sr.s = true)
    ∧ (superTrap.sr.s = true ∧ superTrap.config.totalRamSize ≤ superTrap.config.totalMemSize
      ∧ superTrap.writable .l (stackBase superTrap - 4#32) = true
      ∧ superTrap.writable .w (stackBase superTrap - 6#32) = true
      ∧ (accessAddr superTrap.config .w (stackBase superTrap - 6#32) + 2
          ≤ accessAddr superTrap.config .l (stackBase superTrap - 4#32)
        ∨ accessAddr superTrap.config .l (stackBase superTrap - 4#32) + 4
          ≤ accessAddr superTrap.config .w (stackBase superTrap - 6#32))
      ∧ ∃ t, enterException 33 superTrap = .next t ∧ t.sr.s = true) :=
  ⟨⟨by decide, by decide, by decide, by decide, meets_next (by decide)⟩,
    ⟨by decide, by decide, by decide, by decide, by decide, meets_next (by decide)⟩⟩

theorem witness_BranchesGoOrFallThrough :
    (Cond.eq ≠ .f ∧ CondTrue .eq (given 0 [] [.ccr 4#8]).sr.ccr) ∧ (Cond.eq ≠ .f ∧ ¬ CondTrue .eq nopState.sr.ccr)
    ∧ (Cond.t ≠ .f ∧ CondTrue .t nopState.sr.ccr) := by
  refine ⟨⟨by decide, ?_⟩, ⟨by decide, ?_⟩, by decide, trivial⟩
  · show (_ : Bool) = true; decide
  · show ¬ (_ : Bool) = true; decide

theorem witness_DbccCountsDown :
    CondTrue .t nopState.sr.ccr ∧ (¬ CondTrue .f nopState.sr.ccr ∧ uval .w (nopState.dreg 0) = 0)
    ∧ (¬ CondTrue .f (chkState 0x10001#32 0#32).sr.ccr ∧ uval .w ((chkState 0x10001#32 0#32).dreg 0) ≠ 0) :=
  ⟨trivial, ⟨id, by decide⟩, id, by decide⟩

theorem witness_CallsJumpsAndReturns :
    (Instr.jsr (.pcIndex { isAddr := true, xreg := 7, isLong := true, disp := 0x80#8 })).wf tBand = true
    ∧ (Instr.jmp (.absL 0xFF001235#32)).wf tBand = true := by
  decide

theorem witness_MoveCopiesItsSource :
    (move .b (.imm 0xFF#32) (.preDec 7)).wf nopState.config.band = true
    ∧ (move .w (.an 0) (.dn 7)).wf nopState.config.band = true
    ∧ (move .l (.postInc 0) (.preDec 0)).wf nopState.config.band = true := by
  decide

theorem witness_WholeRegisterLoads : (Instr.lea (.absW 0xFFFF#16) 7).wf nopState.config.band = true := by decide

theorem witness_StackFramesArePushedAndRemoved : (Instr.pea (.ind 7)).wf nopState.config.band = true := by decide

theorem witness_RegistersAreExchangedAndExtended :
    (∃ rx ry : RegNo, Instr.exgDD 0 7 = .exgDD rx ry ∧ xData 0 = xData rx ∧ xData 7 = xData ry)
    ∧ (∃ rx ry : RegNo, Instr.exgAA 7 7 = .exgAA rx ry ∧ xAddr 7 = xAddr rx ∧ xAddr 7 = xAddr ry)
    ∧ (∃ rx ry : RegNo, Instr.exgDA 1 7 = .exgDA rx ry ∧ xData 1 = xData rx ∧ xAddr 7 = xAddr ry) :=
  ⟨⟨0, 7, rfl, rfl, rfl⟩, ⟨7, 7, rfl, rfl, rfl⟩, ⟨1, 7, rfl, rfl, rfl⟩⟩

theorem witness_OneOperandInstructionsWriteTheirResult :
    (clr .b (.preDec 7)).wf nopState.config.band = true ∧ (notI .l (.dn 0)).wf nopState.config.band = true
    ∧ (Instr.tas (.postInc 7)).wf nopState.config.band = true
    ∧ ((scc .t (.absL 1#32)).wf nopState.config.band = true ∧ CondTrue .t nopState.sr.ccr)
    ∧ ((scc .f (.dn 7)).wf nopState.config.band = true ∧ ¬ CondTrue .f nopState.sr.ccr) :=
  ⟨by decide, by decide, by decide, ⟨by decide, trivial⟩, by decide, id⟩

theorem witness_MovemStoresTheSelectedRegisters :
    (movemStoreI true 0xFFFF#16 (.ind 7)).wf nopState.config.band = true ∧ (∀ r, EA.ind 7 ≠ .preDec r) :=
  ⟨by decide, fun _ h => nomatch h⟩

theorem witness_MovemLoadsTheSelectedRegisters :
    (movemLoadI false 0x8001#16 (.pcDisp 2#16)).wf nopState.config.band = true
    ∧ (∀ r, EA.pcDisp 2#16 ≠ .postInc r) :=
  ⟨by decide, fun _ h => nomatch h⟩

theorem witness_MovepMovesAlternateBytes :
    (0x7FFF#32 : Long) = (chkState 0#32 0#32).areg 7 + BitVec.ofInt 32 (0xFFFF#16 : Word).toInt := by
  decide

theorem witness_AddAndSubIntoAnOperand :
    (addDnEa .b 0 (.preDec 7)).wf nopState.config.band = true
    ∧ (subDnEa .l 7 (.absL 0#32)).wf nopState.config.band = true
    ∧ (addi .w 0xFFFF#32 (.dn 0)).wf nopState.config.band = true
    ∧ (subi .l 1#32 (.postInc 7)).wf nopState.config.band = true
    ∧ ((addq .b 0#3 (.dn 0)).wf nopState.config.band = true ∧ (EA.dn 0).isAn = false)
    ∧ ((subq .w 7#3 (.ind 0)).wf nopState.config.band = true ∧ (EA.ind 0).isAn = false) := by
  decide

theorem witness_NegAndNegxSubtractFromZero :
    (neg .b (.dn 0)).wf nopState.config.band = true ∧ (negx .l (.preDec 0)).wf nopState.config.band = true := by
  decide

theorem witness_MultiplyIsExact : (EA.imm 0xFFFF#32).wf .w = true := by decide

theorem witness_DivideFitsOrOverflows :
    ((EA.dn 1).wf .w = true ∧ uval .w (operand (.dn 1) .w (chkState 0xFFFF#32 1#32)) ≠ 0
      ∧ ((chkState 0xFFFF#32 1#32).dreg 0).toNat / uval .w (operand (.dn 1) .w (chkState 0xFFFF#32 1#32)) = 65535)
    ∧ (uval .w (operand (.dn 1) .w (chkState 0x10000#32 1#32)) ≠ 0
      ∧ ((chkState 0x10000#32 1#32).dreg 0).toNat / uval .w (operand (.dn 1) .w (chkState 0x10000#32 1#32))
        = 65536)
    ∧ ((chkState 0xFFFF8000#32 1#32).dreg 0).toInt.tdiv
        (sval .w (operand (.dn 1) .w (chkState 0xFFFF8000#32 1#32))) = -32768
    ∧ ((chkState 0x7FFF#32 1#32).dreg 0).toInt.tdiv
        (sval .w (operand (.dn 1) .w (chkState 0x7FFF#32 1#32))) = 32767
    ∧ ((chkState 0xFFFF7FFF#32 1#32).dreg 0).toInt.tdiv
        (sval .w (operand (.dn 1) .w (chkState 0xFFFF7FFF#32 1#32))) = -32769
    ∧ ((chkState 0x8000#32 1#32).dreg 0).toInt.tdiv
        (sval .w (operand (.dn 1) .w (chkState 0x8000#32 1#32))) = 32768 := by
  decide

theorem witness_DecimalInstructionsWriteTheirByte :
    (Instr.nbcd (.preDec 7)).wf nopState.config.band = true := by
  decide

theorem witness_DecimalOperationsAreDecimal :
    (ValidBcd 0x00 ∧ ValidBcd 0x99) ∧ (bcdAdd 0x99 0x99 true).1 = 0x99 ∧ (bcdSub 0x99 0x00 true).1 = 0x00 := by
  refine ⟨?_, by decide, by decide⟩
  unfold ValidBcd; decide

theorem witness_ConditionsAfterACompareReadTheOrder :
    ∃ f : Flags, f = flagsCmp ⟨true, true, true, true, true⟩ .b (trunc .b 0x80#32) (trunc .b 0x7F#32)
        (trunc .b (trunc .b 0x7F#32 - trunc .b 0x80#32))
      ∧ Cond.holds .gt f = true ∧ Cond.holds .cs f = true :=
  ⟨_, rfl, by decide, by decide⟩

theorem witness_LogicInstructionsWriteTheirResult :
    (LogicOp.and ≠ .eor ∧ (andEaDn .b (.imm 0xFF#32) 0).wf nopState.config.band = true)
    ∧ (LogicOp.or ≠ .eor ∧ (orEaDn .l (.pcDisp 0#16) 7).wf nopState.config.band = true)
    ∧ (andDnEa .w 0 (.ind 0)).wf nopState.config.band = true
    ∧ (orDnEa .b 0 (.preDec 7)).wf nopState.config.band = true
    ∧ (eorDnEa .l 0 (.dn 0)).wf nopState.config.band = true
    ∧ (andi .b 0xFF#32 (.dn 0)).wf nopState.config.band = true
    ∧ (ori .w 0#32 (.absW 0#16)).wf nopState.config.band = true
    ∧ (eori .l 0xFFFFFFFF#32 (.postInc 7)).wf nopState.config.band = true := by
  decide

theorem witness_MemoryShiftsMoveOneBit : (shiftMemI .roxr (.preDec 7)).wf nopState.config.band = true := by decide

theorem witness_BitInstructionsTestAndChangeOneBit :
    (bitRegI .tst 0 (.imm 0xFF#32)).wf nopState.config.band = true
    ∧ (bitRegI .chg 7 (.dn 7)).wf nopState.config.band = true
    ∧ (bitImmI .set 0xFF#8 (.preDec 7)).wf nopState.config.band = true := by
  decide

theorem witness_HostTrapsStopOrCallTheHost :
    ((0xA000#16 : Word) ≠ nopState.config.band.stop ∧ ∀ op ∈ nopState.config.fpOps, op.opcode ≠ 0xA000#16)
    ∧ ((0xA0FE#16 : Word) ≠ nopState.config.band.stop ∧ ∀ op ∈ nopState.config.fpOps, op.opcode ≠ 0xA0FE#16)
    ∧ nopState.traceEnabled = nopState.sr.t := by
  decide

/-- The descriptor of a bridge opcode of configuration T, and a state with two floats for it. -/
def bridgeOp (w : Word) : FpOp := ((bridgeOpOf Config.testT w).getD (Config.testT.fpOps.getD 0
  { opcode := 0#16, fn := .add, variant := .acc, order := .tosOpNos, slowEntry := 0#32, clobbers := [] }))
def bridgeState (e1 m1 e2 m2 : Nat) : State := given 0x1000 [] (bridgeFacts e1 m1 e2 m2)

theorem witness_BridgeOperationSucceeds :
    (0xA010#16 : Word) ≠ nopState.config.band.stop
    ∧ bridgeOpOf (bridgeState 0x0801 0x40000000 0x0802 0x40000000).config 0xA010#16 = some (bridgeOp 0xA010#16)
    ∧ (bridgeState 0x0801 0x40000000 0x0802 0x40000000).config.fpPtrReg ≠ 7
    ∧ BridgeOperands (bridgeOp 0xA010#16) (bridgeState 0x0801 0x40000000 0x0802 0x40000000)
        0x3FF0000000000000#64 0x4000000000000000#64
    ∧ toGuest (fpCompute (bridgeOp 0xA010#16) 0x3FF0000000000000#64 0x4000000000000000#64)
        = some (0x0802#16, 0x60000000#32) := by
  unfold BridgeOperands
  decide +kernel

theorem witness_BridgeFallsBackWithNothingChanged :
    ((0xA010#16 : Word) ≠ nopState.config.band.stop
      ∧ bridgeOpOf (bridgeState 0x0402 0x40000000 0x0801 0x40000000).config 0xA010#16 = some (bridgeOp 0xA010#16)
      ∧ (bridgeState 0x0402 0x40000000 0x0801 0x40000000).readDouble
          (bridgeState 0x0402 0x40000000 0x0801 0x40000000).floatPtr = none)
    ∧ (fpBinary (bridgeOp 0xA010#16).fn = true
      ∧ (bridgeState 0x0801 0x40000000 0x0C00 0x40000000).readDouble
          ((bridgeState 0x0801 0x40000000 0x0C00 0x40000000).floatPtr + 6#32) = none)
    ∧ (BridgeOperands (bridgeOp 0xA011#16) (bridgeState 0x0801 0x40000000 0 0) 0x3FF0000000000000#64 0#64
      ∧ toGuest (fpCompute (bridgeOp 0xA011#16) 0x3FF0000000000000#64 0#64) = none) := by
  unfold BridgeOperands
  decide +kernel

theorem witness_GuestFloatsRoundTrip :
    (Config.testT.fpExpLo ≤ (0x403#16 : Word).toNat ∧ (0x403#16 : Word).toNat ≤ Config.testT.fpExpHi
      ∧ 0x403 ≤ (0x403#16 : Word).toNat ∧ (0x403#16 : Word).toNat ≤ 0xBFF ∧ Normalised 0x40000000#32)
    ∧ (Config.testT.fpExpLo ≤ (0xBFF#16 : Word).toNat ∧ (0xBFF#16 : Word).toNat ≤ Config.testT.fpExpHi
      ∧ 0x403 ≤ (0xBFF#16 : Word).toNat ∧ (0xBFF#16 : Word).toNat ≤ 0xBFF ∧ Normalised 0xBFFFFFFF#32) := by
  unfold Normalised
  decide

theorem witness_MemoryReadsBackWhatWasWritten :
    nopState.config.totalRamSize ≤ nopState.config.totalMemSize
    ∧ accessAddr nopState.config .l 0x2FFFC#32 + sizeBytes .l ≤ nopState.config.totalRamSize
    ∧ accessAddr nopState.config .b 0x2FFFF#32 + sizeBytes .b ≤ nopState.config.totalRamSize
    ∧ nopState.config.totalRamSize < accessAddr nopState.config .l 0x2FFFE#32 + sizeBytes .l
    ∧ nopState.config.totalRamSize < accessAddr nopState.config .b 0x30000#32 + sizeBytes .b
    ∧ nopState.config.totalMemSize ≤ accessAddr nopState.config .w 0x40001#32 := by
  decide

theorem witness_AliasedAddressesAreOne :
    (0xFF002000#32 : Long) &&& nopState.config.cutoffMask = 0x2000#32 &&& nopState.config.cutoffMask
    ∧ (Size.w ≠ .b ∧ (0x2000#32 : Long) ||| 1#32 = 0x2001#32 ||| 1#32) := by
  decide

theorem witness_BulkWriteFillsRomToo :
    cutoff Config.testT (0x3FFFF#32 + BitVec.ofNat 32 0) < Config.testT.totalMemSize
    ∧ (∀ k, k < 2 → cutoff Config.testT (0x3FFFF#32 + BitVec.ofNat 32 k) ≠ 0x3FFFE)
    ∧ (∀ j, 0 < j → j < 2 →
      cutoff Config.testT (0x3FFFF#32 + BitVec.ofNat 32 j) ≠ cutoff Config.testT (0x3FFFF#32 + BitVec.ofNat 32 0)) := by
  refine ⟨by decide, by decide, fun j h1 h2 => ?_⟩
  have : j = 1 := by omega
  subst this; decide

/-- A registry with slot 0 taken, and a full one. -/
def oneHandler : State := registerHandler (handlerOf 0) State.reset
def fullRegistry : State := (List.range 10).foldl (fun s k => registerHandler (handlerOf k) s) State.reset

theorem witness_RegistryKeepsOneHandlerPerClass :
    (oneHandler.irqSlots[0] = some (handlerOf 0) ∧ (handlerOf 0).cls = (handlerOf 0).cls)
    ∧ ((∀ (j : Fin 10) (p : IrqHandler), oneHandler.irqSlots[j.val] = some p → p.cls ≠ (handlerOf 1).cls)
      ∧ oneHandler.irqSlots[1] = none ∧ ∀ j : Fin 10, j < 1 → oneHandler.irqSlots[j.val] ≠ none)
    ∧ (∀ k : Fin 10, fullRegistry.irqSlots[k.val] ≠ none) := by
  refine ⟨by decide, ⟨fun j p h => ?_, by decide, by decide⟩, by decide⟩
  have : ∀ j : Fin 10, oneHandler.irqSlots[j.val] = none ∨ oneHandler.irqSlots[j.val] = some (handlerOf 0) := by
    decide
  rcases this j with h' | h' <;> rw [h'] at h <;> cases h
  decide

theorem witness_RomIsUnchangedByAStep :
    NoCall nopState ∧ nopState.hostTraps.headD [] = [] ∧ (∃ t, step nopState = .next t ∧ t.sr.s = true)
    ∧ nopState.config.totalRamSize ≤ 0x30000 :=
  ⟨rfl, rfl, meets_next (by decide), by decide⟩

theorem witness_UserModeKeepsTheSystemByte :
    (∀ w, Instr.nop ≠ .hosttrap w) ∧ userState.sr.s = false ∧ ∃ t, exec .nop userState = .next t ∧ (!t.sr.s) = true :=
  ⟨fun _ h => (nomatch h), by decide, meets_next (p := fun t => !t.sr.s) (by decide)⟩

theorem witness_ResetLeavesTheSpecifiedValues : ∃ t, t = hostCall .reset userState := ⟨_, rfl⟩

theorem witness_StepKeepsTheInvariant :
    nopState.config.wf = true ∧ nopState.Inv ∧ ∃ t, step nopState = .next t ∧ t.sr.s = true := by
  refine ⟨by decide +kernel, ⟨by decide, by decide, by decide, ?_⟩, meets_next (by decide)⟩
  exact fun i j p q h => by
    have : ∀ k : Fin 10, nopState.irqSlots[k.val] = none := by decide
    simp_all

end Sys2Proof.Tests
end

section
/-! What an instruction can do to the state, said once: the answer of `exec` is one of the transitions below,
and the statements about user mode, the stack swap and the invariant follow from it. -/

namespace Sys2Proof.Proofs

open Sys2Proof.Machine Sys2Proof.Claims Sys2Proof.Laws

/-! Answers. -/

/-- The next state, where there is one, has a property. -/
def Answers (P : State → Prop) (r : Result) : Prop := ∀ t, r = .next t → P t

section
variable {P Q : State → Prop} {s u : State} {r r' : Result}

theorem answers_next (h : P u) : Answers P (.next u) := by
  rintro t ⟨⟩
  exact h

theorem answers_fault (f : Fault) : Answers P (.fault f) := fun _ h => nomatch h

theorem answers_ite {c : Prop} [Decidable c] (h : c → Answers P r) (h' : ¬ c → Answers P r') :
    Answers P (if c then r else r') := by
  split
  · exact h ‹_›
  · exact h' ‹_›

theorem answers_andThen {k : State → Result} (h : Answers Q r) (hk : ∀ u, Q u → Answers P (k u)) :
    Answers P (andThen r k) := by
  cases r with
  | next u => exact hk u (h u rfl)
  | fault f => exact fun _ h => nomatch h
  | refused f => exact fun _ h => nomatch h

/-- Going to a vector stops, or changes `pc` alone (R428, R430). -/
theorem answers_jumpVector {v : Nat} (h : ∀ target, P (s.setPc target)) : Answers P (s.jumpVector v) :=
  answers_ite (fun _ => answers_fault _) (fun _ => answers_next (h _))

end

/-! The guest's stores. -/

/-- Memory has changed by the guest's stores alone (R69 to R71): they keep the canonical form, and they list
and change nothing at or above the writable boundary. -/
structure GuestStores (s t : State) : Prop where
  config    : t.config = s.config
  canonical : s.mem.wf = true → t.mem.wf = true
  bounded   : ∀ n, s.config.totalRamSize ≤ n → s.mem.below n = true → t.mem.below n = true
  rom       : ∀ x, s.config.totalRamSize ≤ x → t.mem.get x = s.mem.get x

namespace GuestStores
variable {s t u : State}

theorem of_mem_eq (hm : t.mem = s.mem) (hc : t.config = s.config) : GuestStores s t where
  config    := hc
  canonical := hm ▸ id
  bounded   := fun _ _ => hm ▸ id
  rom       := fun _ _ => by rw [hm]

theorem trans (h : GuestStores s t) (k : GuestStores t u) : GuestStores s u where
  config        := k.config.trans h.config
  canonical     := k.canonical ∘ h.canonical
  bounded n hn  := k.bounded n (h.config ▸ hn) ∘ h.bounded n hn
  rom x hx      := (k.rom x (h.config ▸ hx)).trans (h.rom x hx)

theorem memWrite (sz : Size) (a v : Long) (s : State) : GuestStores s (s.memWrite sz a v) where
  config       := s.memWrite_config sz a v
  canonical    := s.memWrite_wf sz a v
  bounded n hn := s.memWrite_below sz a v n hn
  rom x hx     := s.memWrite_rom sz a v x hx

end GuestStores

/-! What no privilege is needed for. -/

/-- The system state is kept, and memory has changed by the guest's stores alone: what an instruction may do
that neither takes an exception nor writes the status register or a shadow stack pointer. -/
structure Harmless (s t : State) : Prop where
  system : KeepsSystem s t
  stores : GuestStores s t

namespace Harmless
variable {s t u : State}

theorem refl (s : State) : Harmless s s := ⟨keepsSystem_refl s, .of_mem_eq rfl rfl⟩

theorem trans (h : Harmless s t) (k : Harmless t u) : Harmless s u :=
  ⟨keepsSystem_trans h.system k.system, h.stores.trans k.stores⟩

/-- An update that keeps memory too. -/
theorem keep (h : Harmless s t) (k : KeepsSystem t u) (hm : u.mem = t.mem) : Harmless s u :=
  h.trans ⟨k, .of_mem_eq hm k.config⟩

theorem setD {r : RegNo} {v : Long} (h : Harmless s t) : Harmless s (t.setD r v) :=
  h.keep (by constructor <;> rfl) rfl

theorem setA {r : RegNo} {v : Long} (h : Harmless s t) : Harmless s (t.setA r v) :=
  h.keep (by constructor <;> rfl) rfl

theorem setX {x : XRegNo} {v : Long} (h : Harmless s t) : Harmless s (t.setX x v) := by
  unfold State.setX
  split
  · exact h.setD
  · exact h.setA

theorem mergeD {sz : Size} {r : RegNo} {v : Long} (h : Harmless s t) : Harmless s (t.mergeD sz r v) :=
  h.setD

theorem setSp {v : Long} (h : Harmless s t) : Harmless s (t.setSp v) := h.setA

theorem drop32 (h : Harmless s t) : Harmless s t.drop32 := h.setSp

theorem drop16 (h : Harmless s t) : Harmless s t.drop16 := h.setSp

theorem setPc {a : Long} (h : Harmless s t) : Harmless s (t.setPc a) :=
  h.keep (by constructor <;> rfl) rfl

theorem consume {n : Nat} (h : Harmless s t) : Harmless s (t.consume n) :=
  h.keep (by constructor <;> rfl) rfl

theorem setFlags {f : Flags} (h : Harmless s t) : Harmless s (t.setFlags f) :=
  h.keep (keepsSystem_setFlags f t) rfl

theorem advanceDraws {n : Nat} (h : Harmless s t) : Harmless s (t.advanceDraws n) :=
  h.keep (by constructor <;> rfl) rfl

theorem memWrite {sz : Size} {a v : Long} (h : Harmless s t) : Harmless s (t.memWrite sz a v) :=
  h.trans ⟨by constructor <;> simp, .memWrite sz a v t⟩

theorem push32 {v : Long} (h : Harmless s t) : Harmless s (t.push32 v) := h.setSp.memWrite

theorem push16 {v : Word} (h : Harmless s t) : Harmless s (t.push16 v) := h.setSp.memWrite

theorem afterLocate {ea : EA} {sz : Size} (h : Harmless s t) : Harmless s (afterLocate ea sz t) :=
  h.keep (keepsSystem_afterLocate ea sz t) (afterLocate_mem t ea sz)

theorem writeOp {l : Loc} {sz : Size} {v : Long} (h : Harmless s t) : Harmless s (t.writeOp l sz v) := by
  cases l with
  | dreg r => exact h.mergeD
  | areg r => exact h.setA
  | mem a => exact h.memWrite
  | imm v => exact h

/-! The composed updates. -/

theorem aluApply {op : AluOp} {sz : Size} {v : Long} {l : Loc} (h : Harmless s t) :
    Harmless s (aluApply op sz v l t) := h.writeOp.setFlags

theorem bitApply {op : BitOp} {sz : Size} {k : Nat} {l : Loc} (h : Harmless s t) :
    Harmless s (bitApply op sz k l t) := by
  unfold Machine.bitApply
  split
  · exact h.setFlags
  · exact h.writeOp.setFlags

theorem writeDecimal {l : Loc} {p : Nat × Bool} (h : Harmless s t) : Harmless s (writeDecimal l p t) :=
  h.writeOp.setFlags.advanceDraws

theorem storeDown {sz : Size} {s₀ : State} {l : List XRegNo} {a : Long} (h : Harmless s t) :
    Harmless s (storeDown sz s₀ l a t).2 := by
  induction l generalizing a t with
  | nil => exact h
  | cons i rest ih => exact ih h.memWrite

theorem storeUp {sz : Size} {s₀ : State} {l : List XRegNo} {a : Long} (h : Harmless s t) :
    Harmless s (storeUp sz s₀ l a t) := by
  induction l generalizing a t with
  | nil => exact h
  | cons i rest ih => exact ih h.memWrite

theorem loadUp {sz : Size} {l : List XRegNo} {a : Long} (h : Harmless s t) :
    Harmless s (loadUp sz l a t).2 := by
  induction l generalizing a t with
  | nil => exact h
  | cons i rest ih => exact ih h.setX

theorem storeAlternate {l : List Byte} {a : Long} (h : Harmless s t) :
    Harmless s (storeAlternate l a t) := by
  induction l generalizing a t with
  | nil => exact h
  | cons b rest ih => exact ih h.memWrite

theorem clobber {l : List XRegNo} (h : Harmless s t) : Harmless s (clobber l t) := by
  induction l generalizing t with
  | nil => exact h
  | cons r rest ih => exact ih h.setX.advanceDraws

/-- A bridge operation is harmless on both paths (R401, R402). -/
theorem bridge {op : FpOp} (h : Harmless s t) : Harmless s (bridge op t) := by
  unfold Machine.bridge
  split
  · exact h.setPc
  · exact h.drop32.memWrite.memWrite.setA.clobber.setPc

end Harmless

/-! The exception entries store their frame. -/

theorem guestStores_pushFrame (ra : Long) (s : State) : GuestStores s (s.pushFrame ra) :=
  (GuestStores.of_mem_eq s.toSupervisor_mem s.toSupervisor_config).trans
    (Harmless.refl s.toSupervisor).push32.push16.stores

theorem guestStores_entryState (s : State) : GuestStores s s.entryState :=
  (guestStores_pushFrame s.pcb s).trans (.of_mem_eq rfl rfl)

theorem guestStores_privilegeState (s : State) : GuestStores s s.privilegeState :=
  (guestStores_pushFrame s.opaddr s).trans (.of_mem_eq rfl rfl)

/-! The transitions. -/

/-- What `exec` can do with an instruction that is no host trap. -/
inductive Transition (i : Instr) (s : State) : State → Prop
  /-- no system instruction, or one without its effect -/
  | harmless {t : State} : Harmless s t → Transition i s t
  /-- the generic entry of an exception, from the state its instruction has come to (R428) -/
  | generic {s₁ : State} (target : Long) : Harmless s s₁ → s₁.areg 7 = stackAtSwap i s →
      Transition i s (s₁.entryState.setPc target)
  /-- the privilege path, from user mode and before the instruction has done anything (R431) -/
  | privilege (target : Long) : s.sr.s = false → s.areg 7 = stackAtSwap i s →
      Transition i s (s.privilegeState.setPc target)
  /-- a write of the status register (R34), then of `pc` or of the stopped state -/
  | status {s₁ : State} (v : Word) (pc : CellIndex) (stopped : Bool) : s.sr.s = true → Harmless s s₁ →
      s₁.areg 7 = stackAtSwap i s → Transition i s { s₁.setSR v with pc := pc, stopped := stopped }
  /-- MOVE An,USP (R356) -/
  | usp (v : Long) : s.sr.s = true → Transition i s { s with usp := v }

section
variable {i : Instr} {s u : State}

theorem answers_harmless (h : Harmless s u) : Answers (Transition i s) (.next u) :=
  answers_next (.harmless h)

theorem answers_exception (v : Nat) (h : Harmless s u) (ha : u.areg 7 = stackAtSwap i s) :
    Answers (Transition i s) (enterException v u) :=
  answers_jumpVector fun target => .generic target h ha

theorem answers_setSR {v : Word} (hs : s.sr.s = true) (h : Harmless s u)
    (ha : u.areg 7 = stackAtSwap i s) : Answers (Transition i s) (.next (u.setSR v)) :=
  answers_next (.status v _ _ hs h ha)

/-- A privileged instruction in either mode (R340). -/
theorem answers_privileged {k : State → Result} (hu : s.sr.s = false → s.areg 7 = stackAtSwap i s)
    (hk : s.sr.s = true → Answers (Transition i s) (k s)) :
    Answers (Transition i s) (privileged k s) := by
  refine answers_ite hk fun hs => ?_
  rw [Bool.not_eq_true] at hs
  exact answers_jumpVector fun target => .privilege target hs (hu hs)

/-- The `RX_RY` format hands on a harmless state. -/
theorem answers_withPair {sz : Size} {form : RxForm} {ry rx : RegNo} {k : Long → Loc → State → Result}
    (hk : ∀ v l u, Harmless s u → Answers (Transition i s) (k v l u)) :
    Answers (Transition i s) (withPair sz form ry rx s k) := by
  cases form with
  | dreg => exact hk _ _ _ (.refl s)
  | predec => exact hk _ _ _ (Harmless.refl s).afterLocate.afterLocate

theorem answers_extended {op : ExtOp} {sz : Size} {form : RxForm} {ry rx : RegNo} :
    Answers (Transition i s) (extended op sz form ry rx s) :=
  answers_withPair fun _ _ _ h => answers_harmless h.writeOp.setFlags

theorem answers_decimal {op : ExtOp} {form : RxForm} {ry rx : RegNo} :
    Answers (Transition i s) (decimal op form ry rx s) :=
  answers_withPair fun _ _ _ h => answers_harmless h.writeDecimal

theorem answers_aluQuick {op : AluOp} {sz : Size} {q : BitVec 3} {ea : EA} :
    Answers (Transition i s) (aluQuick op sz q ea s) := by
  unfold aluQuick
  split
  · exact answers_harmless (Harmless.refl s).setA
  · exact answers_harmless (Harmless.refl s).afterLocate.aluApply

theorem answers_bitOperate {op : BitOp} {b : Nat} {ea : EA} (h : Harmless s u) :
    Answers (Transition i s) (bitOperate op b ea u) := by
  unfold bitOperate
  split
  · exact answers_harmless h.bitApply
  · exact answers_harmless h.afterLocate.bitApply

theorem answers_branchIf {k : Cond} {d : BranchDisp} : Answers (Transition i s) (branchIf k d s) :=
  answers_ite (fun _ => answers_harmless (Harmless.refl s).setPc)
    (fun _ => answers_harmless (Harmless.refl s).consume)

theorem answers_decrementBranch (k : Cond) (dn : RegNo) (disp : Word) :
    Answers (Transition i s) (decrementBranch k dn disp s) :=
  answers_ite (fun _ => answers_harmless (Harmless.refl s).consume) fun _ =>
    answers_ite (fun _ => answers_harmless (Harmless.refl s).consume.mergeD)
      (fun _ => answers_harmless (Harmless.refl s).consume.mergeD.setPc)

theorem answers_movemStore {sz : Size} {mask : Word} {ea : EA} :
    Answers (Transition i s) (movemStore sz mask ea s) := by
  unfold movemStore
  split
  · exact answers_harmless (Harmless.refl s).consume.storeDown.setA
  · exact answers_harmless (Harmless.refl s).consume.afterLocate.storeUp

theorem answers_movemLoad {sz : Size} {mask : Word} {ea : EA} :
    Answers (Transition i s) (movemLoad sz mask ea s) := by
  unfold movemLoad
  split
  · exact answers_harmless (Harmless.refl s).consume.loadUp.setA
  · exact answers_harmless (Harmless.refl s).consume.afterLocate.loadUp

/-- A division traps on a zero divisor, with its operand read (R260, R261, R432). -/
theorem answers_divide {ea : EA} {dn : RegNo} (hi : stackAtSwap i s = movedA ea .w s 7) :
    Answers (Transition i s) (divideUnsigned ea dn s) ∧ Answers (Transition i s) (divideSigned ea dn s) := by
  have h := (Harmless.refl s).afterLocate (ea := ea) (sz := .w)
  have ha : (afterLocate ea .w s).areg 7 = stackAtSwap i s := (afterLocate_areg_movedA ..).trans hi.symm
  constructor <;>
    exact answers_ite (fun _ => answers_exception _ h.setFlags.advanceDraws ha) fun _ =>
      answers_ite (fun _ => answers_harmless h.setFlags.advanceDraws)
        (fun _ => answers_harmless h.setD.setFlags)

theorem answers_checkBounds {ea : EA} {dn : RegNo} (hi : stackAtSwap i s = movedA ea .w s 7) :
    Answers (Transition i s) (checkBounds ea dn s) := by
  have h := (Harmless.refl s).afterLocate (ea := ea) (sz := .w)
  have ha : (afterLocate ea .w s).areg 7 = stackAtSwap i s := (afterLocate_areg_movedA ..).trans hi.symm
  exact answers_ite (fun _ => answers_exception _ h.setFlags.advanceDraws ha) fun _ =>
    answers_ite (fun _ => answers_exception _ h.setFlags.advanceDraws ha)
      (fun _ => answers_harmless h.setFlags.advanceDraws)

end

/-- Every instruction but a host trap makes one of the transitions. -/
theorem exec_transition {i : Instr} (s : State) (hi : ∀ w, i ≠ .hosttrap w) :
    Answers (Transition i s) (exec i s) := by
  have h := Harmless.refl s
  cases i with
  | hosttrap w => exact absurd rfl (hi w)
  -- the two-operand operations
  | oriB | oriW | oriL | andiB | andiW | andiL | subiB | subiW | subiL | addiB | addiW | addiL
  | eoriB | eoriW | eoriL => exact answers_harmless h.consume.afterLocate.aluApply
  | orEaDnB | orEaDnW | orEaDnL | subEaDnB | subEaDnW | subEaDnL | andEaDnB | andEaDnW | andEaDnL
  | addEaDnB | addEaDnW | addEaDnL
  | orDnEaB | orDnEaW | orDnEaL | subDnEaB | subDnEaW | subDnEaL | andDnEaB | andDnEaW | andDnEaL
  | addDnEaB | addDnEaW | addDnEaL | eorB | eorW | eorL =>
    exact answers_harmless h.afterLocate.aluApply
  | addqB | addqW | addqL | subqB | subqW | subqL => exact answers_aluQuick
  -- arithmetic
  | addaW | addaL | subaW | subaL => exact answers_harmless h.afterLocate.setA
  | cmpB | cmpW | cmpL | cmpaW | cmpaL | tstB | tstW | tstL =>
    exact answers_harmless h.afterLocate.setFlags
  | cmpiB | cmpiW | cmpiL => exact answers_harmless h.consume.afterLocate.setFlags
  | cmpmB | cmpmW | cmpmL => exact answers_harmless h.afterLocate.afterLocate.setFlags
  | negB | negW | negL | negxB | negxW | negxL | notB | notW | notL | clrB | clrW | clrL | tas =>
    exact answers_harmless h.afterLocate.writeOp.setFlags
  | addxB | addxW | addxL | subxB | subxW | subxL => exact answers_extended
  | mulu | muls => exact answers_harmless h.afterLocate.setD.setFlags
  | divu ea dn => exact (answers_divide rfl).1
  | divs ea dn => exact (answers_divide rfl).2
  | abcd | sbcd => exact answers_decimal
  | nbcd => exact answers_harmless h.afterLocate.writeDecimal
  -- bits and shifts
  | btstImm | bchgImm | bclrImm | bsetImm => exact answers_bitOperate h.consume
  | btstReg | bchgReg | bclrReg | bsetReg => exact answers_bitOperate h
  | st | sf | shi | sls | scc | scs | sne | seq | svc | svs | spl | smi | sge | slt | sgt | sle =>
    exact answers_harmless h.afterLocate.writeOp
  | asrRegB | asrRegW | asrRegL | aslRegB | aslRegW | aslRegL | lsrRegB | lsrRegW | lsrRegL
  | lslRegB | lslRegW | lslRegL | roxrRegB | roxrRegW | roxrRegL | roxlRegB | roxlRegW | roxlRegL
  | rorRegB | rorRegW | rorRegL | rolRegB | rolRegW | rolRegL =>
    exact answers_harmless h.writeOp.setFlags
  | asrMem | aslMem | lsrMem | lslMem | roxrMem | roxlMem | rorMem | rolMem =>
    exact answers_harmless h.afterLocate.writeOp.setFlags
  -- data movement
  | moveB | moveW | moveL => exact answers_harmless h.afterLocate.afterLocate.writeOp.setFlags
  | moveaW | moveaL | lea => exact answers_harmless h.afterLocate.setA
  | moveq | swap => exact answers_harmless h.setD.setFlags
  | extW | extL => exact answers_harmless h.mergeD.setFlags
  | movemStoreW | movemStoreL => exact answers_movemStore
  | movemLoadW | movemLoadL => exact answers_movemLoad
  | movepStoreW | movepStoreL => exact answers_harmless h.consume.storeAlternate
  | movepLoadW | movepLoadL => exact answers_harmless h.consume.mergeD
  | pea => exact answers_harmless h.afterLocate.push32
  | exgDD | exgAA | exgDA => exact answers_harmless h.setX.setX
  | link => exact answers_harmless h.consume.setSp.memWrite.setA.setSp
  | unlk => exact answers_harmless h.setSp.drop32.setA
  -- control flow
  | bra => exact answers_harmless h.setPc
  | bsr => exact answers_harmless h.consume.push32.setPc
  | bhi | bls | bcc | bcs | bne | beq | bvc | bvs | bpl | bmi | bge | blt | bgt | ble =>
    exact answers_branchIf
  | dbt dn disp => exact answers_decrementBranch .t dn disp
  | dbf dn disp => exact answers_decrementBranch .f dn disp
  | dbhi | dbls | dbcc | dbcs | dbne | dbeq | dbvc | dbvs | dbpl | dbmi | dbge | dblt | dbgt | dble =>
    exact answers_decrementBranch _ _ _
  | jmp => exact answers_harmless h.afterLocate.setPc
  | jsr => exact answers_harmless h.afterLocate.push32.setPc
  | rts => exact answers_harmless h.drop32.setPc
  | rtr => exact answers_harmless h.drop16.drop32.setFlags.setPc
  | nop => exact answers_harmless h
  -- the status register
  | oriToCcr | andiToCcr | eoriToCcr => exact answers_harmless h.consume.setFlags
  | moveToCcr => exact answers_harmless h.afterLocate.setFlags
  | moveFromSr => exact answers_harmless h.afterLocate.writeOp
  | oriToSr | andiToSr | eoriToSr =>
    exact answers_privileged (fun _ => rfl) fun hs => answers_setSR hs h.consume rfl
  | moveToSr ea =>
    refine answers_privileged (fun hs => by simp [stackAtSwap, hs]) fun hs =>
      answers_setSR hs h.afterLocate ?_
    simp [stackAtSwap, hs, afterLocate_areg_movedA]
  | stop imm =>
    exact answers_privileged (fun _ => rfl) fun hs => answers_next (.status imm _ true hs h.consume rfl)
  | rte =>
    refine answers_privileged (fun hs => by simp [stackAtSwap, hs]) fun hs =>
      answers_next (.status _ _ _ hs h.setSp ?_)
    simp [stackAtSwap, hs, State.setSp_areg, spNo, State.sp]
  | moveToUsp an =>
    exact answers_privileged (fun _ => rfl) fun hs => answers_next (.usp _ hs)
  | moveFromUsp an => exact answers_privileged (fun _ => rfl) fun _ => answers_harmless h.setA
  | reset => exact answers_privileged (fun _ => rfl) fun _ => answers_harmless h
  -- exceptions
  | chk ea dn => exact answers_checkBounds rfl
  | trap v => exact answers_exception (u := s) (vecTrapBase + v.toNat) h rfl
  | illegal | illegalFiller => exact answers_exception (u := s) vecIllegal h rfl
  | linea => exact answers_exception (u := s) vecLineA h rfl
  | linef => exact answers_exception (u := s) vecLineF h rfl
  | trapv => exact answers_ite (fun _ => answers_exception _ h rfl) (fun _ => answers_harmless h)

end Sys2Proof.Proofs
end

section
/-! The status register (R30 to R38) and the statements about it: O9, O10, O57. -/

namespace Sys2Proof.Proofs

open Sys2Proof.Machine Sys2Proof.Claims Sys2Proof.Laws

/-! The status word. -/

/-- An append as a number: the high part above the low one. -/
theorem toNat_append_add {m n : Nat} (a : BitVec m) (b : BitVec n) :
    (a ++ b).toNat = 2 ^ n * a.toNat + b.toNat := by
  rw [BitVec.toNat_append, Nat.shiftLeft_eq, Nat.mul_comm, Nat.two_pow_add_eq_or_of_lt b.isLt]

theorem statusReg_toWord_toNat (r : StatusReg) :
    r.toWord.toNat = 32768 * r.t.toNat + 8192 * r.s.toNat + 256 * r.i.toNat
      + 16 * r.ccr.x.toNat + 8 * r.ccr.n.toNat + 4 * r.ccr.z.toNat + 2 * r.ccr.v.toNat + r.ccr.c.toNat := by
  simp only [StatusReg.toWord, Flags.toByte, toNat_append_add, BitVec.toNat_ofBool, BitVec.toNat_ofNat]
  omega

/-- The bits of the status word (R30 to R32). -/
theorem statusReg_toWord_getLsbD (r : StatusReg) (k : Nat) :
    r.toWord.getLsbD k =
      if k = 15 then r.t else if k = 13 then r.s else if 8 ≤ k ∧ k ≤ 10 then r.i.getLsbD (k - 8)
      else if k = 4 then r.ccr.x else if k = 3 then r.ccr.n else if k = 2 then r.ccr.z
      else if k = 1 then r.ccr.v else if k = 0 then r.ccr.c else false := by
  by_cases hk : k < 16
  · simp only [StatusReg.toWord, Flags.toByte, BitVec.getLsbD_append, BitVec.getLsbD_ofBool]
    interval_cases k <;> simp
  · rw [BitVec.getLsbD_of_ge _ _ (by omega)]
    grind

theorem statusReg_ofWord_toWord (r : StatusReg) : StatusReg.ofWord r.toWord = r := by
  have hi : r.toWord.extractLsb' 8 3 = r.i := by
    apply BitVec.eq_of_getLsbD_eq
    intro k hk
    simp only [BitVec.getLsbD_extractLsb', statusReg_toWord_getLsbD]
    interval_cases k <;> simp
  simp [StatusReg.ofWord, hi, Flags.ofByte, -BitVec.getLsbD_eq_getElem, statusReg_toWord_getLsbD]

theorem statusReg_toWord_ofWord (w : Word) : (StatusReg.ofWord w).toWord = w &&& 0xA71F#16 := by
  apply BitVec.eq_of_getLsbD_eq
  intro k hk
  rw [statusReg_toWord_getLsbD]
  interval_cases k <;> simp [StatusReg.ofWord, Flags.ofByte]

/-- Settles O9, by the number and by the bits of the status word. -/
theorem statusWordLayout : Obligations.StatusWordLayout :=
  ⟨statusReg_toWord_toNat, statusReg_ofWord_toWord, statusReg_toWord_ofWord⟩

/-! `setSR` (R34). -/

theorem srIs_setSR (v : Word) (s : State) : SrIs v.toNat (s.setSR v) := by
  refine ⟨rfl, rfl, ?_, ?_, rfl⟩
  · simp [StatusReg.ofWord, Nat.shiftRight_eq_div_pow]
  · simp only [CcrIs, State.setSR_sr, StatusReg.ofWord, Flags.ofByte, BitVec.getLsbD_extractLsb']
    exact ⟨rfl, rfl, rfl, rfl, rfl⟩

theorem setSR_sp (v : Word) (s : State) : (s.setSR v).areg 7 =
    if s.sr.s = true ∧ v.getLsbD 13 = false then s.usp
    else if s.sr.s = false ∧ v.getLsbD 13 = true then s.ssp else s.areg 7 := by
  have hb : (StatusReg.ofWord v).s = v.getLsbD 13 := rfl
  rw [State.setSR_areg, State.swapStacks_areg, hb]
  cases s.sr.s <;> cases v.getLsbD 13 <;> rfl

theorem setSR_ssp (v : Word) (s : State) :
    (s.setSR v).ssp = if s.sr.s = true ∧ v.getLsbD 13 = false then s.areg 7 else s.ssp :=
  s.swapStacks_ssp _

theorem setSR_usp (v : Word) (s : State) :
    (s.setSR v).usp = if s.sr.s = false ∧ v.getLsbD 13 = true then s.areg 7 else s.usp :=
  s.swapStacks_usp _

theorem setSR_areg_other (v : Word) (s : State) {q : RegNo} (h : q ≠ 7) :
    (s.setSR v).areg q = s.areg q := by
  rw [State.setSR_areg, State.swapStacks_areg]
  exact if_neg h

theorem keepsMemory_setSR (v : Word) (s : State) : KeepsMemory s (s.setSR v) := by
  simp [KeepsMemory]

theorem keepsHost_setSR (v : Word) (s : State) : KeepsHost s (s.setSR v) := by
  constructor <;> simp

/-! The users of `setSR`. -/

theorem exec_moveToSr {ea : EA} {s : State} (hs : s.sr.s = true) :
    exec (.moveToSr ea) s = .next ((afterLocate ea .w s).setSR ((operand ea .w s).setWidth 16)) := by
  show privileged (fun s => loadSr ea s) s = _
  simp only [privileged, hs, if_true, loadSr, withSource, readOp_afterLocate, operand]

/-! What a change of mode does to the stack pointers (R34, R428, R431). -/

/-- `A7` before the swap is `sp`: leaving supervisor mode saves it in `SSP` and takes `USP`, entering saves
it in `USP` and pushes a frame of six bytes from `SSP`. -/
def SwapsFrom (sp : Long) (s t : State) : Prop :=
  (s.sr.s = true → t.sr.s = false → t.ssp = sp ∧ t.areg 7 = s.usp ∧ t.usp = s.usp)
  ∧ (s.sr.s = false → t.sr.s = true → t.usp = sp ∧ t.areg 7 = s.ssp - 6#32 ∧ t.ssp = s.ssp)

theorem swapsFrom_of_same_mode {sp : Long} {s t : State} (h : t.sr.s = s.sr.s) : SwapsFrom sp s t := by
  constructor <;> intro hs ht <;> simp [h, hs] at ht

/-- An entry swaps the stack pointers exactly where it comes from user mode. -/
theorem swapsFrom_of_entered {ra : Long} {generic : Bool} {s u t : State} (h : Entered ra generic s u)
    (hsr : t.sr.s = u.sr.s) (ha : t.areg 7 = u.areg 7) (hu : t.usp = u.usp) (hp : t.ssp = u.ssp) :
    SwapsFrom (s.areg 7) s t := by
  refine ⟨fun _ ht => absurd ((hsr.trans h.supervisor).symm.trans ht) (by decide), fun hs _ => ?_⟩
  rw [ha, hu, hp, h.sp, h.usp, h.ssp]
  simp [stackBase, hs]

theorem swapsFrom_setSR {s : State} (v : Word) (hs : s.sr.s = true) (pc : CellIndex) (b : Bool) :
    SwapsFrom (s.areg 7) s { s.setSR v with pc := pc, stopped := b } := by
  refine ⟨fun _ ht => ?_, fun hs' _ => absurd (hs.symm.trans hs') (by decide)⟩
  have hv : v.getLsbD 13 = false := ht
  refine ⟨(setSR_ssp v s).trans ?_, (setSR_sp v s).trans ?_, (setSR_usp v s).trans ?_⟩ <;>
    rw [hs, hv] <;> rfl

/-- A harmless beginning does not matter. -/
theorem SwapsFrom.of_harmless {sp : Long} {s s₁ t : State} (k : SwapsFrom sp s₁ t) (h : Harmless s s₁) :
    SwapsFrom sp s t := by
  obtain ⟨hu, hp, -, hm⟩ := h.system
  unfold SwapsFrom at *
  rwa [hu, hp, hm] at k

theorem transition_swapsFrom {i : Instr} {s t : State} (h : Transition i s t) :
    SwapsFrom (stackAtSwap i s) s t := by
  cases h with
  | harmless h => exact swapsFrom_of_same_mode h.system.supervisor
  | generic target h ha =>
    exact ha ▸ (swapsFrom_of_entered (entered_entryState _) rfl rfl rfl rfl).of_harmless h
  | privilege target _ ha => exact ha ▸ swapsFrom_of_entered (entered_privilegeState s) rfl rfl rfl rfl
  | status v pc b hs h ha =>
    exact ha ▸ (swapsFrom_setSR v (h.system.supervisor.trans hs) pc b).of_harmless h
  | usp v => exact swapsFrom_of_same_mode rfl

/-- Settles O10: `setSR` by its stack pointers, its users by their answers, the two entries by `Entered`, and
every other change of mode by the transitions of `exec`. -/
theorem setSrSwapsWithTheSupervisorBit : Obligations.SetSrSwapsWithTheSupervisorBit := by
  refine ⟨fun s v => ?_, fun s hs => ?_, fun s u hu => ?_, fun i s t hi he => ?_⟩
  · exact ⟨srIs_setSR v s, setSR_sp v s, setSR_ssp v s, setSR_usp v s, fun q => setSR_areg_other v s,
      s.setSR_dreg v, keepsMemory_setSR v s, keepsHost_setSR v s⟩
  · refine ⟨fun ea _ => ⟨_, afterSource_afterLocate ea .w s, exec_moveToSr hs⟩, ?_, ?_, ?_, ?_, ?_⟩
    all_goals intros; exact if_pos hs
  · obtain ⟨ra, generic, h⟩ : ∃ ra generic, Entered ra generic s u := by
      rcases hu with rfl | rfl
      · exact ⟨_, _, entered_entryState s⟩
      · exact ⟨_, _, entered_privilegeState s⟩
    exact ⟨h.supervisor, h.sp, h.usp, h.ssp⟩
  · exact transition_swapsFrom (exec_transition s hi t he)

/-- Settles O57: in user mode the transitions that need supervisor mode are closed, the two entries end in
supervisor mode, and a harmless one keeps the system state. -/
theorem userModeKeepsTheSystemByte : Obligations.UserModeKeepsTheSystemByte := by
  intro i s t hi hs he ht
  cases exec_transition s hi t he with
  | harmless h =>
    obtain ⟨husp, hssp, htrace, -, hmask, hcached, hstopped⟩ := h.system
    exact ⟨htrace, hmask, husp, hssp, hcached, hstopped⟩
  | generic target =>
    exact absurd ((entered_entryState _).supervisor.symm.trans ht) (by decide)
  | privilege target =>
    exact absurd ((entered_privilegeState s).supervisor.symm.trans ht) (by decide)
  | status v pc b hsup => exact absurd (hsup.symm.trans hs) (by decide)
  | usp v hsup => exact absurd (hsup.symm.trans hs) (by decide)

end Sys2Proof.Proofs
end

section
/-! The invariant (R481): every part of a step keeps it, and so does a step (O60). What
`reset()` leaves (O58). -/

namespace Sys2Proof.Proofs

open Sys2Proof.Machine Sys2Proof.Claims Sys2Proof.Laws

/-- The invariant holds, and the configuration is `c`. -/
structure Sound (c : Config) (s : State) : Prop where
  inv    : s.Inv
  config : s.config = c

/-! What the host does changes at most one part of the invariant. -/

section
variable {c : Config} {s t : State}

/-- An update that keeps memory and the registry, and the trace flag a copy of the trace bit. -/
theorem Sound.keep (h : Sound c s) (ht : t.traceEnabled = t.sr.t) (hm : t.mem = s.mem)
    (hr : t.irqSlots = s.irqSlots) (hc : t.config = s.config) : Sound c t := by
  obtain ⟨⟨-, memory, inside, registry⟩, config⟩ := h
  exact ⟨⟨ht, hm ▸ memory, hm ▸ hc ▸ inside, hr ▸ registry⟩, hc.trans config⟩

theorem Sound.setSR (h : Sound c s) (v : Word) : Sound c (s.setSR v) :=
  h.keep rfl (s.setSR_mem v) (s.setSR_irqSlots v) (s.setSR_config v)

/-- The bulk path stores nothing beyond the readable boundary (R84). -/
theorem Sound.bulkWrite (h : Sound c s) (dest : Long) (bytes : List Byte) :
    Sound c (s.bulkWrite dest bytes) := by
  obtain ⟨⟨trace, memory, inside, registry⟩, config⟩ := h
  exact ⟨⟨trace, bulkStore_wf _ _ _ _ memory, bulkStore_below _ _ _ _ inside, registry⟩, config⟩

theorem Sound.withRegistry (h : Sound c s) {slots : Vector (Option IrqHandler) 10} {events : List Event}
    (hr : registryUnique slots) : Sound c { s with irqSlots := slots, events := events } := by
  obtain ⟨⟨trace, memory, inside, -⟩, config⟩ := h
  exact ⟨⟨trace, memory, inside, hr⟩, config⟩

end

/-! The registry (R439, R440). -/

section
variable {slots : Vector (Option IrqHandler) 10}

theorem cls_ne_of_classPresent_false {cls : Nat} (h : classPresent slots cls = false) (j : Fin 10)
    (p : IrqHandler) (hp : slots[j.val] = some p) : p.cls ≠ cls := by
  have hj := List.any_eq_false.mp h j (List.mem_finRange j)
  simpa [hp] using hj

/-- A handler of a class no slot holds may take any slot. -/
theorem registryUnique_set (hu : registryUnique slots) (k : Fin 10) (h : IrqHandler)
    (hn : classPresent slots h.cls = false) : registryUnique (slots.set k.val (some h)) := by
  have hne := cls_ne_of_classPresent_false hn
  intro i j p q hp hq hpq
  simp only [Vector.getElem_set] at hp hq
  split at hp <;> split at hq
  · omega
  · cases hp
    exact absurd hpq.symm (hne j q hq)
  · cases hq
    exact absurd hpq (hne i p hp)
  · exact hu i j p q hp hq hpq

theorem registryUnique_clear (hu : registryUnique slots) (n : Nat) (hn : n < 10) :
    registryUnique (slots.set n none) := by
  intro i j p q hp hq hpq
  simp only [Vector.getElem_set] at hp hq
  split at hp
  · cases hp
  · split at hq
    · cases hq
    · exact hu i j p q hp hq hpq

end

/-! The calls of the host at a boundary (R153). -/

section
variable {c : Config} {s : State}

theorem Sound.registerHandler (h : Sound c s) (handler : IrqHandler) :
    Sound c (registerHandler handler s) := by
  refine h.withRegistry ?_
  split
  · exact h.inv.registry
  · split
    · exact registryUnique_set h.inv.registry _ _ (Bool.not_eq_true _ ▸ ‹¬ _›)
    · exact h.inv.registry

theorem Sound.unregisterHandler (h : Sound c s) (index : Int) : Sound c (unregisterHandler index s) := by
  unfold Machine.unregisterHandler
  split
  · exact h.withRegistry (registryUnique_clear h.inv.registry _ _)
  · exact h

theorem Sound.hostCall (h : Sound c s) (call : HostCall) : Sound c (hostCall call s) := by
  cases call with
  | generateInterrupt => exact h.keep h.inv.trace rfl rfl rfl
  | generateInterruptAt _ => exact h.keep h.inv.trace rfl rfl rfl
  | registerHandler handler => exact h.registerHandler handler
  | unregisterHandler index => exact h.unregisterHandler index
  | bulkWrite dest bytes => exact h.bulkWrite dest bytes
  | reset => exact h.keep rfl rfl rfl rfl

theorem Sound.hostCalls (h : Sound c s) (calls : List HostCall) : Sound c (hostCalls calls s) := by
  induction calls generalizing s with
  | nil => exact h
  | cons call rest ih => exact ih (h.hostCall call)

theorem Sound.deliverInputs (h : Sound c s) : Sound c (deliverInputs s) := by
  have hb : Sound c { s with events := [], outcome := .goOn, hostInputs := s.hostInputs.tail } :=
    h.keep h.inv.trace rfl rfl rfl
  exact hb.hostCalls _

theorem Sound.raiseMask (h : Sound c s) : Sound c (raiseMask s) := by
  unfold Machine.raiseMask
  split
  · exact h.keep h.inv.trace rfl rfl rfl
  · exact h

end

/-! Instructions and exceptions, where the writable boundary does not pass the readable one. -/

section
variable {c : Config} (hc : c.totalRamSize ≤ c.totalMemSize) {s t : State}
include hc

theorem Sound.guestStores (h : Sound c s) (k : GuestStores s t) (ht : t.traceEnabled = t.sr.t)
    (hr : t.irqSlots = s.irqSlots) : Sound c t := by
  obtain ⟨⟨-, memory, inside, registry⟩, rfl⟩ := h
  exact ⟨⟨ht, k.canonical memory, k.config ▸ k.bounded _ hc inside, hr ▸ registry⟩, k.config⟩

theorem Sound.harmless (h : Sound c s) (k : Harmless s t) : Sound c t :=
  h.guestStores hc k.stores
    (by rw [k.system.traceEnabled, k.system.trace, h.inv.trace]) k.system.irqSlots

/-- The generic entry clears both the trace bit and its copy (R428). -/
theorem Sound.entryState (h : Sound c s) : Sound c s.entryState :=
  h.guestStores hc (guestStores_entryState s) rfl (s.pushFrame_irqSlots s.pcb)

/-- The privilege path keeps the trace bit, and copies it (R431). -/
theorem Sound.privilegeState (h : Sound c s) : Sound c s.privilegeState :=
  h.guestStores hc (guestStores_privilegeState s) (entered_privilegeState s).traceEnabled
    (s.pushFrame_irqSlots s.opaddr)

theorem Sound.setPc (h : Sound c s) (a : Long) : Sound c (s.setPc a) :=
  h.harmless hc (Harmless.refl s).setPc

theorem Sound.transition {i : Instr} (h : Sound c s) (k : Transition i s t) : Sound c t := by
  cases k with
  | harmless k => exact h.harmless hc k
  | generic target k => exact ((h.harmless hc k).entryState hc).setPc hc target
  | privilege target => exact (h.privilegeState hc).setPc hc target
  | status v pc stopped _ k => exact ((h.harmless hc k).setSR v).keep rfl rfl rfl rfl
  | usp v => exact h.keep h.inv.trace rfl rfl rfl

theorem Sound.enterException (h : Sound c s) (v : Nat) : Answers (Sound c) (enterException v s) :=
  answers_jumpVector ((h.entryState hc).setPc hc)

/-! The host trap (R360 to R364). -/

theorem Sound.hostAct (h : Sound c s) (act : HostAction) : Sound c (hostAct act s) := by
  cases act with
  | setD r v => exact h.harmless hc (Harmless.refl s).setD
  | setA r v => exact h.harmless hc (Harmless.refl s).setA
  | setSR v => exact h.setSR v
  | setPc a => exact h.setPc hc a
  | memWrite sz a v => exact h.harmless hc (Harmless.refl s).memWrite
  | bulkWrite dest bytes => exact h.bulkWrite dest bytes
  | signalInterrupt => exact h.keep h.inv.trace rfl rfl rfl

theorem Sound.hostActs (h : Sound c s) (acts : List HostAction) : Sound c (hostActs acts s) := by
  induction acts generalizing s with
  | nil => exact h
  | cons act rest ih => exact ih (h.hostAct hc act)

theorem Sound.hostTrapWord (h : Sound c s) (w : Word) : Answers (Sound c) (hostTrapWord w s) := by
  refine answers_ite (fun _ => answers_next (h.keep h.inv.trace rfl rfl rfl)) fun _ => ?_
  split
  · exact answers_next (h.harmless hc (Harmless.refl s).bridge)
  · have hb : Sound c { s with
        hostTraps := s.hostTraps.tail
        events := s.events ++ [.hostTrap (bandIndex s.config.band w)] } := h.keep h.inv.trace rfl rfl rfl
    exact answers_next (hb.hostActs hc _)

theorem Sound.exec (h : Sound c s) (i : Instr) : Answers (Sound c) (exec i s) := by
  by_cases hi : ∃ w, i = .hosttrap w
  · obtain ⟨w, rfl⟩ := hi
    exact h.hostTrapWord hc w
  · exact fun t ht => h.transition hc (exec_transition s (not_exists.mp hi) t ht)

/-! The cycle (R149). -/

theorem Sound.takeInterrupt (h : Sound c s) : Answers (Sound c) (takeInterrupt s) := by
  have hb : Sound c { s with irqPending := false, stopped := false } := h.keep h.inv.trace rfl rfl rfl
  exact answers_ite
    (fun _ => answers_andThen (hb.enterException hc _) (fun _ hu => answers_next hu.raiseMask))
    (fun _ => answers_next h)

theorem Sound.traceAfter (h : Sound c s) (op : Word) : Answers (Sound c) (traceAfter op s) :=
  answers_ite (fun _ => h.enterException hc _) (fun _ => answers_next h)

theorem Sound.cycleFetch (h : Sound c s) : Answers (Sound c) (cycleFetch s) :=
  answers_ite (fun _ => answers_next h) fun _ =>
    answers_andThen (Sound.exec hc (h.harmless hc (Harmless.refl s).consume) _)
      (fun _ hu => hu.traceAfter hc _)

theorem Sound.step (h : Sound c s) : Answers (Sound c) (step s) :=
  answers_andThen (h.deliverInputs.takeInterrupt hc) (fun _ hu => hu.cycleFetch hc)

end

theorem totalRamSize_le_of_wf {c : Config} (h : c.wf = true) : c.totalRamSize ≤ c.totalMemSize := by
  simp only [Config.wf, Bool.and_eq_true, decide_eq_true_eq] at h
  omega

/-- Settles O60: the calls of the boundary, the interrupt, the instruction and the trace exception each keep
the invariant and the configuration. -/
theorem stepKeepsTheInvariant : Obligations.StepKeepsTheInvariant := by
  intro s t hwf hinv hstep
  obtain ⟨inv, config⟩ := Sound.step (totalRamSize_le_of_wf hwf) ⟨hinv, rfl⟩ t hstep
  exact ⟨inv, config⟩

/-- Settles O58: every value but the two vectors' is written out in `hostReset`. -/
theorem resetLeavesTheSpecifiedValues : Obligations.ResetLeavesTheSpecifiedValues := by
  rintro s t rfl
  refine ⟨statusReg_toWord_ofWord 0x2700#16, rfl, rfl, rfl, ?_, ?_, rfl, rfl, rfl, rfl⟩
  · exact Vector.getElem_push_eq
  · exact goesTo_setPc s _ _ (by omega)

end Sys2Proof.Proofs
end

section
/-! Memory (R60 to R84) and the statements about it: a store reads back (O52), aliased addresses (O53), the
bulk path (O54), and what a step leaves at or above the writable boundary (O56). -/

namespace Sys2Proof.Proofs

open Sys2Proof.Machine Sys2Proof.Claims Sys2Proof.Laws

/-! One access (R62 to R73). -/

/-- A read that begins beyond the readable boundary gives zero (R68). -/
theorem memRead_beyond (s : State) (sz : Size) (a : Long)
    (h : s.config.totalMemSize ≤ accessAddr s.config sz a) : s.memRead sz a = 0#32 := by
  have hpos : 0 < sizeBytes sz := by cases sz <;> decide
  exact if_neg (by omega)

/-- Settles O52: the store of the model reads back truncated, one that passes the writable boundary is
dropped, and a read beyond the readable one is zero. -/
theorem memoryReadsBackWhatWasWritten : Obligations.MemoryReadsBackWhatWasWritten := by
  intro s sz a v hc
  refine ⟨fun hw => ?_, fun hw => ?_, memRead_beyond s sz a⟩
  · rw [s.memRead_memWrite_same sz a v hc (decide_eq_true hw), trunc_toNat]
  · have hdropped : s.memWrite sz a v = s := s.memWrite_dropped sz a v (decide_eq_false (by omega))
    rw [hdropped]
    exact ⟨fun _ => rfl, rfl⟩

/-! Aliased addresses (R62, R65, R66). -/

theorem accessAddr_eq_of_cutoff_eq {c : Config} {a b : Long} (sz : Size) (h : cutoff c a = cutoff c b) :
    accessAddr c sz a = accessAddr c sz b := by
  cases sz <;> simp only [accessAddr, h]

/-- Half a cut-off address does not depend on bit 0. -/
theorem cutoff_div_two (c : Config) (a : Long) :
    cutoff c a / 2 = (a >>> 1 &&& c.cutoffMask >>> 1).toNat := by
  rw [← BitVec.ushiftRight_and_distrib, BitVec.toNat_ushiftRight, Nat.shiftRight_one]
  rfl

/-- Addresses that agree but for bit 0 agree when shifted by one. -/
theorem ushiftRight_one_eq_of_or_one_eq {a b : Long} (h : a ||| 1#32 = b ||| 1#32) : a >>> 1 = b >>> 1 := by
  have hor : ∀ x : Long, (x ||| 1#32) >>> 1 = x >>> 1 := fun x => by
    rw [BitVec.ushiftRight_or_distrib]
    exact BitVec.or_zero
  rw [← hor a, h, hor b]

/-- A word or a long acts at the even address below (R65, R66). -/
theorem accessAddr_eq_of_or_one_eq {c : Config} {sz : Size} {a b : Long} (hsz : sz ≠ .b)
    (h : a ||| 1#32 = b ||| 1#32) : accessAddr c sz a = accessAddr c sz b := by
  have hhalf : cutoff c a / 2 = cutoff c b / 2 := by
    rw [cutoff_div_two, cutoff_div_two, ushiftRight_one_eq_of_or_one_eq h]
  cases sz with
  | b => exact absurd rfl hsz
  | w | l => exact congrArg (· * 2) hhalf

/-- The accessors see an address through `accessAddr` alone: bytes, boundaries and the event. -/
theorem access_congr {s : State} {sz : Size} {a b : Long} (v : Long)
    (h : accessAddr s.config sz a = accessAddr s.config sz b) :
    s.memRead sz a = s.memRead sz b ∧ s.memWrite sz a v = s.memWrite sz b v := by
  have hw : s.writable sz a = s.writable sz b := by simp only [State.writable, h]
  have he : screenEvents s.config sz a v = screenEvents s.config sz b v := by simp only [screenEvents, h]
  constructor
  · simp only [State.memRead, h]
  · simp only [State.memWrite, hw, he, h]

/-- Settles O53: both ways of agreeing give one access address. -/
theorem aliasedAddressesAreOne : Obligations.AliasedAddressesAreOne := by
  rintro s sz a b v (hmask | ⟨hsz, hbit⟩)
  · exact access_congr v (accessAddr_eq_of_cutoff_eq sz (congrArg BitVec.toNat hmask))
  · exact access_congr v (accessAddr_eq_of_or_one_eq hsz hbit)

/-! The bulk path (R84). -/

theorem bulkAddr_succ (dest : Long) (k : Nat) :
    dest + 1#32 + BitVec.ofNat 32 k = dest + BitVec.ofNat 32 (k + 1) := by
  rw [BitVec.add_assoc, ← BitVec.ofNat_add, Nat.add_comm]

/-- The bulk path leaves a byte that is not below the readable boundary, and one at which it puts nothing. -/
theorem get_bulkStore_outside (c : Config) (bytes : List Byte) (dest : Long) (m : Memory) (x : Nat)
    (h : x < c.totalMemSize → ∀ k, k < bytes.length → cutoff c (dest + BitVec.ofNat 32 k) ≠ x) :
    (bulkStore c dest m bytes).get x = m.get x := by
  induction bytes generalizing dest m with
  | nil => rfl
  | cons b rest ih =>
    have hrest := ih (dest + 1#32) (if cutoff c dest < c.totalMemSize then m.put (cutoff c dest) b else m)
      fun hx k hk => bulkAddr_succ dest k ▸ h hx (k + 1) (Nat.succ_lt_succ hk)
    refine hrest.trans ?_
    split
    · next hlt =>
      have hne : x ≠ cutoff c dest := by
        rintro rfl
        exact h hlt 0 (Nat.succ_pos _) (congrArg (cutoff c) (BitVec.add_zero dest))
      rw [Memory.get_put, if_neg hne]
    · rfl

/-- The bulk path puts a byte at its own address below the readable boundary, if no later byte goes there. -/
theorem get_bulkStore_inside (c : Config) (bytes : List Byte) (dest : Long) (m : Memory) (k : Nat)
    (hk : k < bytes.length) (hlt : cutoff c (dest + BitVec.ofNat 32 k) < c.totalMemSize)
    (hlast : ∀ j, k < j → j < bytes.length →
      cutoff c (dest + BitVec.ofNat 32 j) ≠ cutoff c (dest + BitVec.ofNat 32 k)) :
    (bulkStore c dest m bytes).get (cutoff c (dest + BitVec.ofNat 32 k)) = bytes.getD k 0#8 := by
  induction bytes generalizing dest m k with
  | nil => exact absurd hk (Nat.not_lt_zero k)
  | cons b rest ih =>
    cases k with
    | zero =>
      rw [BitVec.add_zero] at hlt hlast ⊢
      rw [bulkStore, if_pos hlt, get_bulkStore_outside, Memory.get_put_same]
      · rfl
      · exact fun _ j hj => bulkAddr_succ dest j ▸ hlast (j + 1) (Nat.succ_pos j) (Nat.succ_lt_succ hj)
    | succ k =>
      rw [← bulkAddr_succ] at hlt hlast ⊢
      exact ih _ _ k (Nat.lt_of_succ_lt_succ hk) hlt fun j hkj hj =>
        bulkAddr_succ dest j ▸ hlast (j + 1) (Nat.succ_lt_succ hkj) (Nat.succ_lt_succ hj)

/-- The screen test of the bulk path, as a proposition. -/
theorem meetsScreen_iff (c : Config) (dest : Long) (len : Nat) :
    meetsScreen c dest len = true ↔ 0 < len ∧ c.screenStart < c.screenStop
      ∧ dest.toNat < c.screenStop ∧ c.screenStart < dest.toNat + len := by
  simp only [meetsScreen, Bool.and_eq_true, decide_eq_true_eq, and_assoc]

/-- Settles O54, by what the stores of the bulk path leave and put, and by its screen test. -/
theorem bulkWriteFillsRomToo : Obligations.BulkWriteFillsRomToo := by
  intro s dest bytes
  refine ⟨fun x hx => ?_, fun k hk hlt hlast => ?_, fun x hx => ?_, ?_⟩
  · exact get_bulkStore_outside _ _ _ _ _ fun _ => hx
  · exact get_bulkStore_inside _ _ _ _ k hk hlt hlast
  · exact get_bulkStore_outside _ _ _ _ _ fun hlt => absurd hx (Nat.not_le_of_lt hlt)
  · simp only [State.bulkWrite, meetsScreen_iff]

/-! What a step stores (R71). -/

section
variable {s t u : State}

/-- Every transition of an instruction stores as the guest does. -/
theorem transition_guestStores {i : Instr} (h : Transition i s t) : GuestStores s t := by
  cases h with
  | harmless h => exact h.stores
  | generic target h =>
    exact (h.stores.trans (guestStores_entryState _)).trans (.of_mem_eq rfl rfl)
  | privilege target => exact (guestStores_privilegeState s).trans (.of_mem_eq rfl rfl)
  | status v pc stopped _ h => exact h.stores.trans (.of_mem_eq (State.setSR_mem _ v) (State.setSR_config _ v))
  | usp v => exact .of_mem_eq rfl rfl

/-- The guest's stores, with the oracle of the host traps (R363) not yet asked. -/
structure StoresBeforeTrap (s t : State) : Prop where
  stores    : GuestStores s t
  hostTraps : t.hostTraps = s.hostTraps

theorem StoresBeforeTrap.of_mem_eq (hm : t.mem = s.mem) (hc : t.config = s.config)
    (ht : t.hostTraps = s.hostTraps) : StoresBeforeTrap s t := ⟨.of_mem_eq hm hc, ht⟩

theorem StoresBeforeTrap.trans (h : StoresBeforeTrap s t) (k : StoresBeforeTrap t u) :
    StoresBeforeTrap s u :=
  ⟨h.stores.trans k.stores, k.hostTraps.trans h.hostTraps⟩

theorem StoresBeforeTrap.raiseMask (h : StoresBeforeTrap s t) : StoresBeforeTrap s (raiseMask t) := by
  unfold Machine.raiseMask
  split
  · exact h.trans (.of_mem_eq rfl rfl rfl)
  · exact h

theorem enterException_storesBeforeTrap (v : Nat) (s : State) :
    Answers (StoresBeforeTrap s) (enterException v s) :=
  have hentry : StoresBeforeTrap s s.entryState := ⟨guestStores_entryState s, s.pushFrame_hostTraps s.pcb⟩
  answers_jumpVector fun _ => hentry.trans (.of_mem_eq rfl rfl rfl)

theorem takeInterrupt_storesBeforeTrap (s : State) : Answers (StoresBeforeTrap s) (takeInterrupt s) := by
  have hcleared : StoresBeforeTrap s { s with irqPending := false, stopped := false } :=
    .of_mem_eq rfl rfl rfl
  exact answers_ite
    (fun _ => answers_andThen (enterException_storesBeforeTrap _ _)
      (fun _ hu => answers_next (hcleared.trans hu).raiseMask))
    (fun _ => answers_next (.of_mem_eq rfl rfl rfl))

/-- A host trap to which the collaborator answers nothing (R362 to R364). -/
theorem hostTrapWord_guestStores (w : Word) (h : s.hostTraps.headD [] = []) :
    Answers (GuestStores s) (hostTrapWord w s) := by
  refine answers_ite (fun _ => answers_next (.of_mem_eq rfl rfl)) fun _ => ?_
  split
  · exact answers_next (Harmless.refl s).bridge.stores
  · rw [hostService, h]
    exact answers_next (.of_mem_eq rfl rfl)

theorem exec_guestStores (i : Instr) (h : s.hostTraps.headD [] = []) :
    Answers (GuestStores s) (exec i s) := by
  by_cases hi : ∃ w, i = .hosttrap w
  · obtain ⟨w, rfl⟩ := hi
    exact hostTrapWord_guestStores w h
  · exact fun t ht => transition_guestStores (exec_transition s (not_exists.mp hi) t ht)

theorem traceAfter_guestStores (op : Word) (s : State) : Answers (GuestStores s) (traceAfter op s) :=
  answers_ite (fun _ t ht => (enterException_storesBeforeTrap _ s t ht).stores)
    (fun _ => answers_next (.of_mem_eq rfl rfl))

theorem cycleFetch_guestStores (h : s.hostTraps.headD [] = []) :
    Answers (GuestStores s) (cycleFetch s) := by
  refine answers_ite (fun _ => answers_next (.of_mem_eq rfl rfl)) fun _ => ?_
  have hfetched : GuestStores s (s.consume 1) := .of_mem_eq rfl rfl
  exact answers_andThen (exec_guestStores _ h) fun u hu t ht =>
    (hfetched.trans hu).trans (traceAfter_guestStores _ u t ht)

/-- The cycle: interrupt, instruction, trace. -/
theorem cycle_guestStores (h : s.hostTraps.headD [] = []) : Answers (GuestStores s) (cycle s) :=
  answers_andThen (takeInterrupt_storesBeforeTrap s) fun _ hu t ht =>
    hu.stores.trans (cycleFetch_guestStores (hu.hostTraps ▸ h) t ht)

theorem deliverInputs_of_noCall (h : NoCall s) : deliverInputs s = boundary s := by
  rw [deliverInputs, h]
  rfl

end

/-- Settles O56: with no call at the boundary and none answered at a host trap, a step makes the guest's
stores alone, and those leave every byte at or above the writable boundary. -/
theorem romIsUnchangedByAStep : Obligations.RomIsUnchangedByAStep := by
  intro s t x hcall htraps hstep hx
  rw [step, deliverInputs_of_noCall hcall] at hstep
  have hstores : GuestStores (boundary s) t := cycle_guestStores (s := boundary s) htraps t hstep
  exact hstores.rom x hx

end Sys2Proof.Proofs
end

section
/-! The opcode word and its fields (R101, R104), and the decoder by its fields. -/

namespace Sys2Proof.Proofs

open Sys2Proof.Machine Sys2Proof.Claims Sys2Proof.Laws

theorem fields_pack (g : BitVec 4) (f9 f6 m r : BitVec 3) :
    fields (pack g f9 f6 m r) = ⟨g, f9, f6, m, r⟩ := by
  simp only [fields, Fields.mk.injEq, pack]
  refine ⟨?_, ?_, ?_, ?_, ?_⟩ <;>
  · apply BitVec.eq_of_toNat_eq
    simp only [BitVec.extractLsb'_toNat, Nat.shiftRight_eq_div_pow, toNat_append_add]
    omega

theorem pack_fields (w : Word) :
    pack (fields w).g (fields w).f9 (fields w).f6 (fields w).m (fields w).r = w := by
  apply BitVec.eq_of_toNat_eq
  simp only [fields, pack, BitVec.extractLsb'_toNat, Nat.shiftRight_eq_div_pow, toNat_append_add]
  omega

theorem fields_inj {v w : Word} : fields v = fields w ↔ v = w := by
  refine ⟨fun h => ?_, congrArg fields⟩
  rw [← pack_fields v, h, pack_fields]

section
variable {g : BitVec 4} {f9 f6 m r : BitVec 3} {w : Word}

theorem pack_eq_iff : pack g f9 f6 m r = w ↔ (⟨g, f9, f6, m, r⟩ : Fields) = fields w := by
  rw [← fields_pack, fields_inj]

theorem condField_pack : condField (pack g f9 f6 m r) = f9 ++ f6.extractLsb' 2 1 := by
  apply BitVec.eq_of_toNat_eq
  simp only [condField, pack, BitVec.extractLsb'_toNat, Nat.shiftRight_eq_div_pow, toNat_append_add]
  omega

theorem pack_bit8 : (pack g f9 f6 m r).getLsbD 8 = f6.getLsbD 2 := by
  have h := congrArg (fun f : Fields => f.f6.getLsbD 2) (fields_pack g f9 f6 m r)
  simpa [fields, BitVec.getLsbD_extractLsb'] using h

end

/-- `decodeWord` outside the band, with the fields of the opcode word as an argument of their own. -/
def decodeGroup (w : Word) (f : Fields) (ext : List Word) : Instr :=
  match f.g with
  | 0#4 => decode0 w f ext
  | 1#4 => decodeMove .b w f ext .moveB
  | 2#4 =>
    if f.f6 = 1#3 then withEA .all .l w f ext (fun src => .moveaL src f.f9.toFin)
    else decodeMove .l w f ext .moveL
  | 3#4 =>
    if f.f6 = 1#3 then withEA .all .w w f ext (fun src => .moveaW src f.f9.toFin)
    else decodeMove .w w f ext .moveW
  | 4#4 => decode4 w f ext
  | 5#4 => decode5 w f ext
  | 6#4 => decode6 w ext
  | 7#4 => decode7 w f
  | 8#4 => decode8 w f ext
  | 9#4 => decode9 w f ext
  | 10#4 => .linea (w.setWidth 12)
  | 11#4 => decodeB w f ext
  | 12#4 => decodeC w f ext
  | 13#4 => decodeD w f ext
  | 14#4 => decodeE w f ext
  | _ => .linef (w.setWidth 12)

theorem decodeWord_eq {band : HostBand} {w : Word} (h : band.contains w = false) (ext : List Word) :
    decodeWord band w ext = decodeGroup w (fields w) ext := if_neg (h ▸ Bool.false_ne_true)

/-- The eight values of a three-bit field. -/
theorem bv3_cases {p : BitVec 3 → Prop} (x : BitVec 3) (b0 : p 0#3) (b1 : p 1#3) (b2 : p 2#3) (b3 : p 3#3)
    (b4 : p 4#3) (b5 : p 5#3) (b6 : p 6#3) (b7 : p 7#3) : p x := by
  have hx : ∀ x : BitVec 3,
      x = 0#3 ∨ x = 1#3 ∨ x = 2#3 ∨ x = 3#3 ∨ x = 4#3 ∨ x = 5#3 ∨ x = 6#3 ∨ x = 7#3 := by decide
  rcases hx x with rfl | rfl | rfl | rfl | rfl | rfl | rfl | rfl <;> assumption

end Sys2Proof.Proofs
end

section
/-! The filler and the opcode table (R111 to R114): O3. The table's rows are read as conditions on the fields of
a word, and each group of the decoder gives the filler exactly where none of its rows meets its condition. -/

namespace Sys2Proof.Proofs

open Sys2Proof.Machine Sys2Proof.Claims Sys2Proof.Laws

/-! The rows of the table, by the fields. -/

/-- The place of the effective address in bits 5 to 0 in a bitmap of the table. -/
def eaBit (f : Fields) : Nat := 8 * f.m.toNat + f.r.toNat

/-- The place of MOVE's destination in bits 11 to 6. -/
def dstBit (f : Fields) : Nat := 8 * f.f6.toNat + f.f9.toNat

theorem eaBit_fields (w : Word) : eaBit (fields w) = w.toNat % 64 := by
  simp only [eaBit, fields, BitVec.extractLsb'_toNat, Nat.shiftRight_eq_div_pow]
  omega

theorem dstBit_fields (w : Word) : dstBit (fields w) = 8 * (w.toNat / 64 % 8) + w.toNat / 512 % 8 := by
  simp only [dstBit, fields, BitVec.extractLsb'_toNat, Nat.shiftRight_eq_div_pow]

/-- The fields of a word meet a mask and a pattern. -/
def Meets (mask pattern : Nat) (f : Fields) : Prop :=
  f.g &&& (fields (BitVec.ofNat 16 mask)).g = (fields (BitVec.ofNat 16 pattern)).g
  ∧ f.f9 &&& (fields (BitVec.ofNat 16 mask)).f9 = (fields (BitVec.ofNat 16 pattern)).f9
  ∧ f.f6 &&& (fields (BitVec.ofNat 16 mask)).f6 = (fields (BitVec.ofNat 16 pattern)).f6
  ∧ f.m &&& (fields (BitVec.ofNat 16 mask)).m = (fields (BitVec.ofNat 16 pattern)).m
  ∧ f.r &&& (fields (BitVec.ofNat 16 mask)).r = (fields (BitVec.ofNat 16 pattern)).r

theorem meets_fields {mask pattern : Nat} (hm : mask < 2 ^ 16) (hp : pattern < 2 ^ 16) (w : Word) :
    Meets mask pattern (fields w) ↔ w.toNat &&& mask = pattern := by
  have hand : fields (w &&& BitVec.ofNat 16 mask) = fields (BitVec.ofNat 16 pattern)
      ↔ Meets mask pattern (fields w) := by
    simp only [fields, Meets, BitVec.extractLsb'_and, Fields.mk.injEq]
  rw [← hand, fields_inj, ← BitVec.toNat_inj, BitVec.toNat_and, BitVec.toNat_ofNat, BitVec.toNat_ofNat,
    Nat.mod_eq_of_lt hm, Nat.mod_eq_of_lt hp]

/-- No row of a list claims a word with these fields. -/
def Unclaimed (f : Fields) : List TableRow → Prop
  | [] => True
  | ⟨mask, pattern, none, none⟩ :: rows => ¬ Meets mask pattern f ∧ Unclaimed f rows
  | ⟨mask, pattern, some ea, none⟩ :: rows =>
    (Meets mask pattern f → ea.testBit (eaBit f) = false) ∧ Unclaimed f rows
  | ⟨mask, pattern, none, some dst⟩ :: rows =>
    (Meets mask pattern f → dst.testBit (dstBit f) = false) ∧ Unclaimed f rows
  | ⟨mask, pattern, some ea, some dst⟩ :: rows =>
    (Meets mask pattern f → ea.testBit (eaBit f) = true → dst.testBit (dstBit f) = false) ∧ Unclaimed f rows

theorem unclaimed_fields (w : Word) (rows : List TableRow)
    (hrows : ∀ row ∈ rows, row.mask < 2 ^ 16 ∧ row.pattern < 2 ^ 16) :
    Unclaimed (fields w) rows ↔ rows.any (fun row => row.claims w.toNat) = false := by
  induction rows with
  | nil => simp [Unclaimed]
  | cons row rows ih =>
    obtain ⟨⟨hm, hp⟩, hrest⟩ := List.forall_mem_cons.mp hrows
    have ih := ih hrest
    obtain ⟨mask, pattern, ea, dst⟩ := row
    cases ea <;> cases dst <;>
      simp [Unclaimed, TableRow.claims, meets_fields hm hp, eaBit_fields, dstBit_fields, ih]

theorem opcodeRows_bounds (g : BitVec 4) :
    ∀ row ∈ opcodeRows g.toNat, row.mask < 2 ^ 16 ∧ row.pattern < 2 ^ 16 := by
  revert g
  decide

/-- The catch-all words (R113), by their fields. -/
theorem fillerWord_iff (w : Word) : fillerWord w = true ↔
    Unclaimed (fields w) (opcodeRows (fields w).g.toNat) ∧ (fields w).g ≠ 10#4 ∧ (fields w).g ≠ 15#4 := by
  rw [unclaimed_fields w _ (opcodeRows_bounds _), ← BitVec.toNat_ne_iff_ne, ← BitVec.toNat_ne_iff_ne, fields_g]
  simp [fillerWord, rowClaims, and_assoc]

/-! Where the parts of the decoder give the filler. -/

/-- The addressing modes a category admits in a size, as the opcode table writes them: bit `8*mode + reg`. -/
def eaSet (c : Category) (sz : Size) : Nat :=
  match c, sz with
  | .all, .b => 0x1FFFFFFFFFFF00FF
  | .all, _ => 0x1FFFFFFFFFFFFFFF
  | .data, _ => 0x1FFFFFFFFFFF00FF
  | .dataNoImm, _ => 0x0FFFFFFFFFFF00FF
  | .memalt, _ => 0x03FFFFFFFFFF0000
  | .dataalt, _ => 0x03FFFFFFFFFF00FF
  | .alt, .b => 0x03FFFFFFFFFF00FF
  | .alt, _ => 0x03FFFFFFFFFFFFFF
  | .control, _ => 0x0FFFFF0000FF0000
  | .ctlaltPredec, _ => 0x03FFFFFF00FF0000
  | .controlPostinc, _ => 0x0FFFFF00FFFF0000

/-- Whether an operand is admitted does not depend on its extension words. -/
theorem admits_parseEA_ext (c : Category) (sz : Size) (m r : BitVec 3) (ext : List Word) :
    (parseEA sz m r ext).any (c.admits sz) = (parseEA sz m r []).any (c.admits sz) := by
  unfold parseEA
  split
  case h_8 => split <;> cases c <;> simp only [Option.any, Category.admits, Category.member, EA.isAn]
  all_goals cases c <;> simp only [Option.any, Category.admits, Category.member, EA.isAn]

/-- The table of R111 and the bitmaps of the opcode table agree. -/
theorem admits_parseEA (c : Category) (sz : Size) (m r : BitVec 3) (ext : List Word) :
    (parseEA sz m r ext).any (c.admits sz) = (eaSet c sz).testBit (8 * m.toNat + r.toNat) := by
  rw [admits_parseEA_ext]
  cases c <;> cases sz <;> revert m r <;> decide

section
variable {sz : Size} {w : Word} {f : Fields} {ext : List Word}

theorem withEA_eq_filler {c : Category} {k : EA → Instr} (hk : ∀ ea, k ea ≠ .illegalFiller w) :
    withEA c sz w f ext k = .illegalFiller w ↔ (eaSet c sz).testBit (eaBit f) = false := by
  rw [eaBit, ← admits_parseEA c sz f.m f.r ext, withEA]
  cases parseEA sz f.m f.r ext with
  | none => simp
  | some ea => cases h : c.admits sz ea <;> simp [h, hk]

theorem decodeMove_eq_filler {k : EA → EA → Instr} (hk : ∀ src dst, k src dst ≠ .illegalFiller w) :
    decodeMove sz w f ext k = .illegalFiller w ↔
      ((eaSet .all sz).testBit (eaBit f) = true → (eaSet .dataalt sz).testBit (dstBit f) = false) := by
  have hdst (src : EA) := admits_parseEA .dataalt sz f.f6 f.f9 (ext.drop (src.words sz))
  rw [eaBit, dstBit, ← admits_parseEA .all sz f.m f.r ext, decodeMove, withEA]
  cases parseEA sz f.m f.r ext with
  | none => simp
  | some src =>
    rw [← hdst src]
    cases hs : Category.admits .all sz src with
    | false => simp [hs]
    | true =>
      cases hp : parseEA sz f.f6 f.f9 (ext.drop (src.words sz)) with
      | none => simp [hs, hp]
      | some dst => cases h : Category.admits .dataalt sz dst <;> simp [hs, hp, h, hk]

/-- A choice between an instruction of its own and the rest of a group. -/
theorem ite_eq_filler {p : Prop} [Decidable p] {a b : Instr} (ha : a ≠ .illegalFiller w) :
    (if p then a else b) = .illegalFiller w ↔ ¬ p ∧ b = .illegalFiller w := by
  by_cases hp : p <;> simp [hp, ha]

theorem sccOf_ne_filler (cc : BitVec 4) (ea : EA) : sccOf cc ea ≠ .illegalFiller w := by
  unfold sccOf
  split <;> simp

theorem dbccOf_ne_filler (cc : BitVec 4) (dn : RegNo) (disp : Word) :
    dbccOf cc dn disp ≠ .illegalFiller w := by
  unfold dbccOf
  split <;> simp

theorem decode6_ne_filler (v : Word) : decode6 v ext ≠ .illegalFiller w := by
  unfold decode6
  split <;> simp

end

/-- Bits 5 and 4 say whether a word is of the `RX_RY` format (R104). -/
theorem rxFormOf_cases (m : BitVec 3) :
    (∃ form, rxFormOf m = some form ∧ m &&& 6#3 = 0#3) ∨ (rxFormOf m = none ∧ m &&& 6#3 ≠ 0#3) := by
  cases m using bv3_cases <;> simp [rxFormOf]

theorem and_seven (x : BitVec 3) : x &&& 7#3 = x := BitVec.and_allOnes

/-! The groups, each with the rows of its part of the table. Every proof first reads the rows as conditions on the
fields, and then takes the branches of the decoder: by bits 8 to 6, by bits 11 to 9 where the rows fix them, and by
the mode where an instruction without an effective address lies among those of one. -/

section
variable (f9 f6 m r : BitVec 3) (ext : List Word)

theorem decode0_eq_filler :
    decode0 (pack 0#4 f9 f6 m r) ⟨0#4, f9, f6, m, r⟩ ext = .illegalFiller (pack 0#4 f9 f6 m r)
      ↔ Unclaimed ⟨0#4, f9, f6, m, r⟩ (tableRows0a ++ tableRows0b) := by
  simp only [tableRows0a, tableRows0b, List.cons_append, List.nil_append, Unclaimed, Meets, fields,
    BitVec.reduceExtractLsb', BitVec.reduceAnd, BitVec.and_zero, and_seven, and_true, true_and]
  cases f6 using bv3_cases with
  | b4 | b5 | b6 | b7 => simp [decode0, withEA_eq_filler, ite_eq_filler, eaSet, and_comm]
  | _ =>
    cases f9 using bv3_cases <;>
      simp [decode0, decode0Static, immediateRow, withEA_eq_filler, ite_eq_filler, pack_eq_iff, fields, eaSet]

theorem decode1_eq_filler :
    decodeGroup (pack 1#4 f9 f6 m r) ⟨1#4, f9, f6, m, r⟩ ext = .illegalFiller (pack 1#4 f9 f6 m r)
      ↔ Unclaimed ⟨1#4, f9, f6, m, r⟩ tableRows1 := by
  simp only [tableRows1, Unclaimed, Meets, fields, BitVec.reduceExtractLsb', BitVec.reduceAnd,
    BitVec.and_zero, and_true]
  simp [decodeGroup, decodeMove_eq_filler, eaSet]

theorem decode2_eq_filler :
    decodeGroup (pack 2#4 f9 f6 m r) ⟨2#4, f9, f6, m, r⟩ ext = .illegalFiller (pack 2#4 f9 f6 m r)
      ↔ Unclaimed ⟨2#4, f9, f6, m, r⟩ tableRows2 := by
  simp only [tableRows2, Unclaimed, Meets, fields, BitVec.reduceExtractLsb', BitVec.reduceAnd,
    BitVec.and_zero, and_seven, and_true, true_and]
  by_cases h6 : f6 = 1#3
  · simp +contextual [decodeGroup, h6, withEA_eq_filler, eaSet]
  · simp [decodeGroup, h6, decodeMove_eq_filler, eaSet]

theorem decode3_eq_filler :
    decodeGroup (pack 3#4 f9 f6 m r) ⟨3#4, f9, f6, m, r⟩ ext = .illegalFiller (pack 3#4 f9 f6 m r)
      ↔ Unclaimed ⟨3#4, f9, f6, m, r⟩ tableRows3 := by
  simp only [tableRows3, Unclaimed, Meets, fields, BitVec.reduceExtractLsb', BitVec.reduceAnd,
    BitVec.and_zero, and_seven, and_true, true_and]
  by_cases h6 : f6 = 1#3
  · simp +contextual [decodeGroup, h6, withEA_eq_filler, eaSet]
  · simp [decodeGroup, h6, decodeMove_eq_filler, eaSet]

theorem decode4_eq_filler :
    decode4 (pack 4#4 f9 f6 m r) ⟨4#4, f9, f6, m, r⟩ ext = .illegalFiller (pack 4#4 f9 f6 m r)
      ↔ Unclaimed ⟨4#4, f9, f6, m, r⟩ (tableRows4a ++ tableRows4b) := by
  simp only [tableRows4a, tableRows4b, List.cons_append, List.nil_append, Unclaimed, Meets, fields,
    BitVec.reduceExtractLsb', BitVec.reduceAnd, BitVec.and_zero, and_seven, and_true, true_and]
  cases f6 using bv3_cases with
  | b4 | b5 | b6 | b7 => simp [decode4, withEA_eq_filler, eaSet]
  | b1 =>
    cases f9 using bv3_cases with
    | b7 => -- TRAP to RTR: the mode and, under mode 6, the register choose the instruction
      cases m using bv3_cases with
      | b6 => cases r using bv3_cases <;> simp [decode4, decode4E]
      | _ => simp [decode4, decode4E]
    | _ => simp [decode4, withEA_eq_filler, ite_eq_filler, eaSet]
  | _ =>
    cases f9 using bv3_cases <;>
      simp [decode4, decode4E, withEA_eq_filler, ite_eq_filler, pack_eq_iff, fields, eaSet, and_comm]

theorem decode5_eq_filler :
    decode5 (pack 5#4 f9 f6 m r) ⟨5#4, f9, f6, m, r⟩ ext = .illegalFiller (pack 5#4 f9 f6 m r)
      ↔ Unclaimed ⟨5#4, f9, f6, m, r⟩ (tableRows5a ++ tableRows5b) := by
  simp only [tableRows5a, tableRows5b, List.cons_append, List.nil_append, Unclaimed, Meets, fields,
    BitVec.reduceExtractLsb', BitVec.reduceAnd, BitVec.and_zero, and_seven, and_true, true_and]
  cases f6 using bv3_cases with
  | b3 | b7 =>
    cases f9 using bv3_cases <;>
      simp [decode5, withEA_eq_filler, ite_eq_filler, sccOf_ne_filler, dbccOf_ne_filler, eaSet, and_comm]
  | _ => simp [decode5, withEA_eq_filler, eaSet]

theorem decode6_eq_filler :
    decode6 (pack 6#4 f9 f6 m r) ext = .illegalFiller (pack 6#4 f9 f6 m r)
      ↔ Unclaimed ⟨6#4, f9, f6, m, r⟩ tableRows6 := by
  simp only [tableRows6, Unclaimed, Meets, fields, BitVec.reduceExtractLsb', BitVec.reduceAnd,
    BitVec.and_zero, and_seven, and_true, true_and]
  have hbit : f6 &&& 4#3 = 0#3 ∨ f6 &&& 4#3 = 4#3 := by
    revert f6
    decide
  cases f9 using bv3_cases <;> simp [decode6_ne_filler, hbit, imp_iff_not_or]

theorem decode7_eq_filler :
    decode7 (pack 7#4 f9 f6 m r) ⟨7#4, f9, f6, m, r⟩ = .illegalFiller (pack 7#4 f9 f6 m r)
      ↔ Unclaimed ⟨7#4, f9, f6, m, r⟩ tableRows7 := by
  simp only [tableRows7, Unclaimed, Meets, fields, BitVec.reduceExtractLsb', BitVec.reduceAnd,
    BitVec.and_zero, and_true, true_and]
  rw [decode7, pack_bit8]
  cases f6 using bv3_cases <;> simp

theorem decode8_eq_filler :
    decode8 (pack 8#4 f9 f6 m r) ⟨8#4, f9, f6, m, r⟩ ext = .illegalFiller (pack 8#4 f9 f6 m r)
      ↔ Unclaimed ⟨8#4, f9, f6, m, r⟩ tableRows8 := by
  simp only [tableRows8, Unclaimed, Meets, fields, BitVec.reduceExtractLsb', BitVec.reduceAnd,
    BitVec.and_zero, and_seven, and_true, true_and]
  rcases rxFormOf_cases m with ⟨form, hrx, hm⟩ | ⟨hrx, hm⟩ <;>
    cases f6 using bv3_cases <;> simp [decode8, withEA_eq_filler, hrx, hm, eaSet]

theorem decode9_eq_filler :
    decode9 (pack 9#4 f9 f6 m r) ⟨9#4, f9, f6, m, r⟩ ext = .illegalFiller (pack 9#4 f9 f6 m r)
      ↔ Unclaimed ⟨9#4, f9, f6, m, r⟩ tableRows9 := by
  simp only [tableRows9, Unclaimed, Meets, fields, BitVec.reduceExtractLsb', BitVec.reduceAnd,
    BitVec.and_zero, and_seven, and_true, true_and]
  rcases rxFormOf_cases m with ⟨form, hrx, hm⟩ | ⟨hrx, hm⟩ <;>
    cases f6 using bv3_cases <;> simp [decode9, withEA_eq_filler, hrx, hm, eaSet]

theorem decodeB_eq_filler :
    decodeB (pack 11#4 f9 f6 m r) ⟨11#4, f9, f6, m, r⟩ ext = .illegalFiller (pack 11#4 f9 f6 m r)
      ↔ Unclaimed ⟨11#4, f9, f6, m, r⟩ tableRowsB := by
  simp only [tableRowsB, Unclaimed, Meets, fields, BitVec.reduceExtractLsb', BitVec.reduceAnd,
    BitVec.and_zero, and_seven, and_true, true_and]
  cases f6 using bv3_cases <;> simp [decodeB, withEA_eq_filler, ite_eq_filler, eaSet]

theorem decodeC_eq_filler :
    decodeC (pack 12#4 f9 f6 m r) ⟨12#4, f9, f6, m, r⟩ ext = .illegalFiller (pack 12#4 f9 f6 m r)
      ↔ Unclaimed ⟨12#4, f9, f6, m, r⟩ tableRowsC := by
  simp only [tableRowsC, Unclaimed, Meets, fields, BitVec.reduceExtractLsb', BitVec.reduceAnd,
    BitVec.and_zero, and_seven, and_true, true_and]
  cases f6 using bv3_cases with
  | b4 =>
    rcases rxFormOf_cases m with ⟨form, hrx, hm⟩ | ⟨hrx, hm⟩ <;>
      simp [decodeC, withEA_eq_filler, hrx, hm, eaSet]
  | b5 => cases m using bv3_cases <;> simp [decodeC, withEA_eq_filler, eaSet]
  | _ => simp [decodeC, withEA_eq_filler, ite_eq_filler, eaSet]

theorem decodeD_eq_filler :
    decodeD (pack 13#4 f9 f6 m r) ⟨13#4, f9, f6, m, r⟩ ext = .illegalFiller (pack 13#4 f9 f6 m r)
      ↔ Unclaimed ⟨13#4, f9, f6, m, r⟩ tableRowsD := by
  simp only [tableRowsD, Unclaimed, Meets, fields, BitVec.reduceExtractLsb', BitVec.reduceAnd,
    BitVec.and_zero, and_seven, and_true, true_and]
  rcases rxFormOf_cases m with ⟨form, hrx, hm⟩ | ⟨hrx, hm⟩ <;>
    cases f6 using bv3_cases <;> simp [decodeD, withEA_eq_filler, hrx, hm, eaSet]

theorem decodeE_eq_filler :
    decodeE (pack 14#4 f9 f6 m r) ⟨14#4, f9, f6, m, r⟩ ext = .illegalFiller (pack 14#4 f9 f6 m r)
      ↔ Unclaimed ⟨14#4, f9, f6, m, r⟩ (tableRowsEa ++ tableRowsEb) := by
  simp only [tableRowsEa, tableRowsEb, List.cons_append, List.nil_append, Unclaimed, Meets, fields,
    BitVec.reduceExtractLsb', BitVec.reduceAnd, BitVec.and_zero, and_seven, and_true, true_and]
  cases f6 using bv3_cases with
  | b3 | b7 => cases f9 using bv3_cases <;> simp [decodeE, withEA_eq_filler, eaSet] -- the memory forms
  | _ => cases m using bv3_cases <;> simp [decodeE]

/-- The decoder and the table agree in every group, and on the lines A and F. -/
theorem decodeGroup_pack_eq_filler (g : BitVec 4) :
    decodeGroup (pack g f9 f6 m r) ⟨g, f9, f6, m, r⟩ ext = .illegalFiller (pack g f9 f6 m r)
      ↔ Unclaimed ⟨g, f9, f6, m, r⟩ (opcodeRows g.toNat) ∧ g ≠ 10#4 ∧ g ≠ 15#4 := by
  match g with
  | 10#4 => simp [decodeGroup]
  | 15#4 => simp [decodeGroup]
  | ⟨⟨n + 16, h⟩⟩ => exact absurd h (by omega)
  | 0#4 => exact (decode0_eq_filler f9 f6 m r ext).trans (and_iff_left (by decide)).symm
  | 1#4 => exact (decode1_eq_filler f9 f6 m r ext).trans (and_iff_left (by decide)).symm
  | 2#4 => exact (decode2_eq_filler f9 f6 m r ext).trans (and_iff_left (by decide)).symm
  | 3#4 => exact (decode3_eq_filler f9 f6 m r ext).trans (and_iff_left (by decide)).symm
  | 4#4 => exact (decode4_eq_filler f9 f6 m r ext).trans (and_iff_left (by decide)).symm
  | 5#4 => exact (decode5_eq_filler f9 f6 m r ext).trans (and_iff_left (by decide)).symm
  | 6#4 => exact (decode6_eq_filler f9 f6 m r ext).trans (and_iff_left (by decide)).symm
  | 7#4 => exact (decode7_eq_filler f9 f6 m r).trans (and_iff_left (by decide)).symm
  | 8#4 => exact (decode8_eq_filler f9 f6 m r ext).trans (and_iff_left (by decide)).symm
  | 9#4 => exact (decode9_eq_filler f9 f6 m r ext).trans (and_iff_left (by decide)).symm
  | 11#4 => exact (decodeB_eq_filler f9 f6 m r ext).trans (and_iff_left (by decide)).symm
  | 12#4 => exact (decodeC_eq_filler f9 f6 m r ext).trans (and_iff_left (by decide)).symm
  | 13#4 => exact (decodeD_eq_filler f9 f6 m r ext).trans (and_iff_left (by decide)).symm
  | 14#4 => exact (decodeE_eq_filler f9 f6 m r ext).trans (and_iff_left (by decide)).symm

end

/-- Settles O3: in each group the branches of the decoder that give the filler are the words that none of the
group's rows claims. -/
theorem fillerIsExactlyTheUnclaimedWords : Obligations.FillerIsExactlyTheUnclaimedWords := by
  intro band w ext hb
  have h := decodeGroup_pack_eq_filler (fields w).f9 (fields w).f6 (fields w).m (fields w).r ext (fields w).g
  rw [pack_fields] at h
  rw [decodeWord_eq hb, fillerWord_iff]
  exact h

end Sys2Proof.Proofs
end

section
/-! The encoder and the decoder (R101 to R119): O2, and O1. An operand's extension words read back as the operand,
an opcode word's fields read back as the fields it was packed from; the rest is the branch of the decoder that each
instruction's opcode word takes. -/

namespace Sys2Proof.Proofs

open Sys2Proof.Machine Sys2Proof.Claims Sys2Proof.Laws

/-- Settles O1, by running the decoder. -/
theorem wordsOfTheManualDecode : Obligations.WordsOfTheManualDecode :=
  ⟨rfl, rfl, rfl, rfl, rfl, rfl, rfl, rfl, rfl, rfl, rfl, rfl, rfl, rfl, rfl⟩

/-! Extension words read back (R105 to R107). -/

theorem extByteAt_extByte (b : Byte) (ext : List Word) : extByteAt (extByte b ++ ext) 0 = b := by
  simp [extByteAt, extAt, extByte]

theorem extLongAt_extLong (v : Long) (ext : List Word) : extLongAt (extLong v ++ ext) 0 = v := by
  show v.extractLsb' 16 16 ++ v.extractLsb' 0 16 = v
  rw [BitVec.extractLsb'_append_extractLsb'_eq_extractLsb' (by decide)]
  exact BitVec.extractLsb'_eq_self

theorem brief_ofWord_toWord (x : Brief) : Brief.ofWord x.toWord = x := by
  obtain ⟨isAddr, xreg, isLong, disp⟩ := x
  have haddr : (Brief.toWord ⟨isAddr, xreg, isLong, disp⟩).getLsbD 15 = isAddr := by
    simp only [Brief.toWord, BitVec.getLsbD_append]
    cases isAddr <;> rfl
  have hreg : (Brief.toWord ⟨isAddr, xreg, isLong, disp⟩).extractLsb' 12 3 = regBits xreg :=
    (BitVec.extractLsb'_append_eq_of_le (by decide)).trans <|
      (BitVec.extractLsb'_append_eq_of_le (by decide)).trans <|
        (BitVec.extractLsb'_append_eq_of_le (by decide)).trans BitVec.extractLsb'_append_eq_right
  have hlong : (Brief.toWord ⟨isAddr, xreg, isLong, disp⟩).getLsbD 11 = isLong := by
    simp only [Brief.toWord, BitVec.getLsbD_append]
    cases isLong <;> rfl
  have hdisp : (Brief.toWord ⟨isAddr, xreg, isLong, disp⟩).setWidth 8 = disp :=
    BitVec.setWidth_append_eq_right
  rw [Brief.ofWord, haddr, hreg, hlong, hdisp]
  rfl

theorem setWidth_setWidth_of_lt {n : Nat} {v : Long} (h : v.toNat < 2 ^ n) :
    (v.setWidth n).setWidth 32 = v := by
  apply BitVec.eq_of_toNat_eq
  rw [BitVec.toNat_setWidth, BitVec.toNat_setWidth, Nat.mod_eq_of_lt h, Nat.mod_eq_of_lt v.isLt]

theorem immediateAt_ext {sz : Size} {v : Long} (h : EA.wf sz (.imm v) = true) (more : List Word) :
    immediateAt sz ((EA.imm v).ext sz ++ more) 0 = v := by
  cases sz with
  | b =>
    show (extByteAt (extByte (v.setWidth 8) ++ more) 0).setWidth 32 = v
    rw [extByteAt_extByte, setWidth_setWidth_of_lt (of_decide_eq_true h)]
  | w => exact setWidth_setWidth_of_lt (of_decide_eq_true h)
  | l => exact extLongAt_extLong v more

/-- An effective address reads back from its two fields and its extension words (R102). -/
theorem parseEA_ext {sz : Size} {ea : EA} (h : EA.wf sz ea = true) (more : List Word) :
    parseEA sz ea.modeBits ea.regBits (ea.ext sz ++ more) = some ea := by
  cases ea with
  | dn | an | ind | postInc | preDec | disp | absW | pcDisp => rfl
  | index r x => exact congrArg (fun x => some (EA.index r x)) (brief_ofWord_toWord x)
  | pcIndex x => exact congrArg (fun x => some (EA.pcIndex x)) (brief_ofWord_toWord x)
  | absL a => exact congrArg (fun a => some (EA.absL a)) (extLongAt_extLong a more)
  | imm v => exact congrArg (fun v => some (EA.imm v)) (immediateAt_ext h more)

/-! The numbers of words (R119). -/

theorem length_ext (ea : EA) (sz : Size) : (ea.ext sz).length = ea.words sz := by
  cases ea with
  | imm v => cases sz <;> rfl
  | _ => rfl

theorem words_le (ea : EA) (sz : Size) : ea.words sz ≤ 2 := by
  cases ea with
  | imm v => cases sz <;> simp [EA.words]
  | _ => simp [EA.words]

section
variable {w : Word} {sz : Size} {ea : EA}

theorem length_withEA : (w :: ea.ext sz).length = 1 + ea.words sz ∧ 1 ≤ 1 + ea.words sz
    ∧ 1 + ea.words sz ≤ maxWords := by
  have := words_le ea sz
  rw [List.length_cons, length_ext, maxWords]
  omega

/-- An instruction with `k` words before those of its effective address. -/
theorem length_withEA_after {own : List Word} {k : Nat} (hk : own.length + 1 = k) (hle : k ≤ 3) :
    (w :: (own ++ ea.ext sz)).length = k + ea.words sz ∧ 1 ≤ k + ea.words sz
      ∧ k + ea.words sz ≤ maxWords := by
  have := words_le ea sz
  rw [List.length_cons, List.length_append, length_ext, maxWords]
  omega

theorem length_move {src dst : EA} : (w :: (src.ext sz ++ dst.ext sz)).length
    = 1 + src.words sz + dst.words sz ∧ 1 ≤ 1 + src.words sz + dst.words sz
      ∧ 1 + src.words sz + dst.words sz ≤ maxWords := by
  have hsrc := words_le src sz
  have hdst := words_le dst sz
  rw [List.length_cons, List.length_append, length_ext, length_ext, maxWords]
  omega

theorem length_branch {d : BranchDisp} : (w :: d.ext).length = 1 + d.words ∧ 1 ≤ 1 + d.words
    ∧ 1 + d.words ≤ maxWords := by
  cases d <;> simp [BranchDisp.ext, BranchDisp.words, extWord, maxWords]

end

/-- An instruction is encoded in as many words as it has, one to five. -/
theorem length_encode (i : Instr) :
    (encode i).length = i.length ∧ 1 ≤ i.length ∧ i.length ≤ maxWords := by
  cases i with
  | hosttrap | oriToCcr | oriToSr | andiToCcr | andiToSr | eoriToCcr | eoriToSr | movepLoadW | movepLoadL
  | movepStoreW | movepStoreL | swap | extW | extL | illegal | trap | link | unlk | moveToUsp | moveFromUsp
  | reset | nop | stop | rte | rts | trapv | rtr | dbt | dbf | dbhi | dbls | dbcc | dbcs | dbne | dbeq | dbvc
  | dbvs | dbpl | dbmi | dbge | dblt | dbgt | dble | moveq | sbcd | subxB | subxW | subxL | cmpmB | cmpmW | cmpmL
  | abcd | exgDD | exgAA | exgDA | addxB | addxW | addxL | asrRegB | asrRegW | asrRegL | aslRegB | aslRegW
  | aslRegL | lsrRegB | lsrRegW | lsrRegL | lslRegB | lslRegW | lslRegL | roxrRegB | roxrRegW | roxrRegL
  | roxlRegB | roxlRegW | roxlRegL | rorRegB | rorRegW | rorRegL | rolRegB | rolRegW | rolRegL | linea | linef
  | illegalFiller =>
    exact ⟨rfl, of_decide_eq_true rfl, of_decide_eq_true rfl⟩
  | bra | bsr | bhi | bls | bcc | bcs | bne | beq | bvc | bvs | bpl | bmi | bge | blt | bgt | ble =>
    exact length_branch
  | moveB | moveW | moveL => exact length_move
  | oriB | oriW | oriL | andiB | andiW | andiL | subiB | subiW | subiL | addiB | addiW | addiL | eoriB | eoriW
  | eoriL | cmpiB | cmpiW | cmpiL | btstImm | bchgImm | bclrImm | bsetImm | movemStoreW | movemStoreL
  | movemLoadW | movemLoadL =>
    exact length_withEA_after rfl (by decide)
  | _ => exact length_withEA

theorem encode_eq_cons (i : Instr) : encode i = (encode i).headD 0#16 :: (encode i).tail := by
  obtain ⟨hlen, hpos, -⟩ := length_encode i
  obtain ⟨w, ws, h⟩ := List.exists_cons_of_length_pos (hlen ▸ hpos)
  rw [h]
  rfl

/-! The decoder on an operand's fields and words. -/

/-- An operand of a well-formed instruction: its category admits it, and an immediate has its size. -/
def Fits (c : Category) (sz : Size) (ea : EA) : Prop := (c.admits sz ea && EA.wf sz ea) = true

section
variable {c : Category} {sz : Size} {ea : EA} {g : BitVec 4} {f9 f6 : BitVec 3} {w : Word} {more : List Word}

theorem Fits.mem_eaSet (h : Fits c sz ea) :
    (eaSet c sz).testBit (8 * ea.modeBits.toNat + ea.regBits.toNat) = true := by
  obtain ⟨hc, hw⟩ := Bool.and_eq_true_iff.mp h
  rw [← admits_parseEA c sz _ _ (ea.ext sz ++ []), parseEA_ext hw]
  exact hc

/-- A mode the category does not hold. -/
theorem Fits.modeBits_ne (h : Fits c sz ea) {m : BitVec 3}
    (hm : ∀ r : BitVec 3, (eaSet c sz).testBit (8 * m.toNat + r.toNat) = false := by decide) :
    ea.modeBits ≠ m := by
  rintro rfl
  exact Bool.false_ne_true ((hm ea.regBits).symm.trans h.mem_eaSet)

/-- A word with the effective address of another instruction, such as ORI to CCR beside ORI. -/
theorem Fits.eaWord_ne (h : Fits c sz ea) {v : Word}
    (hv : (eaSet c sz).testBit (eaBit (fields v)) = false := by decide) : eaWord g f9 f6 ea ≠ v := by
  rintro rfl
  rw [eaWord, fields_pack] at hv
  exact Bool.false_ne_true (hv.symm.trans h.mem_eaSet)

theorem withEA_ext {k : EA → Instr} (h : Fits c sz ea) :
    withEA c sz w ⟨g, f9, f6, ea.modeBits, ea.regBits⟩ (ea.ext sz ++ more) k = k ea := by
  obtain ⟨hc, hw⟩ := Bool.and_eq_true_iff.mp h
  simp only [withEA, parseEA_ext hw, hc, if_true]

theorem withEA_extByte {k : Byte → EA → Instr} {b : Byte} (h : Fits c sz ea) :
    withEA c sz w ⟨g, f9, f6, ea.modeBits, ea.regBits⟩ ((extByte b ++ ea.ext sz ++ more).drop 1)
      (k (extByteAt (extByte b ++ ea.ext sz ++ more) 0)) = k b ea := by
  rw [List.append_assoc, extByteAt_extByte]
  exact withEA_ext h

theorem withEA_extLong {k : Long → EA → Instr} {v : Long} (h : Fits c sz ea) :
    withEA c sz w ⟨g, f9, f6, ea.modeBits, ea.regBits⟩ ((extLong v ++ ea.ext sz ++ more).drop 2)
      (k (extLongAt (extLong v ++ ea.ext sz ++ more) 0)) = k v ea := by
  rw [List.append_assoc, extLongAt_extLong]
  exact withEA_ext h

theorem fits_of_move {src dst : EA}
    (h : (Category.admits .all sz src && EA.wf sz src && Category.admits .dataalt sz dst && EA.wf sz dst) = true) :
    Fits .all sz src ∧ Fits .dataalt sz dst := by
  simpa only [Fits, Bool.and_eq_true, and_assoc] using h

/-- The destination's words follow the source's (R108). -/
theorem decodeMove_ext {src dst : EA} {k : EA → EA → Instr} (hsrc : Fits .all sz src)
    (hdst : Fits .dataalt sz dst) :
    decodeMove sz w ⟨g, dst.regBits, dst.modeBits, src.modeBits, src.regBits⟩
      (src.ext sz ++ dst.ext sz ++ more) k = k src dst := by
  obtain ⟨hc, hw⟩ := Bool.and_eq_true_iff.mp hdst
  rw [List.append_assoc]
  refine (withEA_ext hsrc).trans ?_
  rw [← length_ext, List.drop_left]
  simp only [parseEA_ext hw, hc, if_true]

/-- A memory operand is no `RX_RY` form. -/
theorem match_rxFormOf_memalt {k : RxForm → Instr} {x : Instr} (h : Fits .memalt sz ea) :
    (match rxFormOf ea.modeBits with
      | some form => k form
      | none => x) = x := by
  have hnone : ∀ m : BitVec 3, m ≠ 0#3 → m ≠ 1#3 → rxFormOf m = none := by decide
  rw [hnone _ (h.modeBits_ne (by cases sz <;> decide)) (h.modeBits_ne (by cases sz <;> decide))]

/-- A memory operand is no form of EXG. -/
theorem match_modeBits_memalt {x y z : Instr} (h : Fits .memalt sz ea) :
    (match ea.modeBits with
      | 0#3 => x
      | 1#3 => y
      | _ => z) = z := by
  split
  · next h0 => exact absurd h0 (h.modeBits_ne (by cases sz <;> decide))
  · next h1 => exact absurd h1 (h.modeBits_ne (by cases sz <;> decide))
  · rfl

end

/-! The decoder on the opcode words of each format (R104), outside the band. -/

section
variable {band : HostBand} {g : BitVec 4} {f9 f6 m r : BitVec 3} {ext more : List Word} {i : Instr}

theorem decodeWord_pack (h : band.contains (pack g f9 f6 m r) = false)
    (hi : decodeGroup (pack g f9 f6 m r) ⟨g, f9, f6, m, r⟩ ext = i) :
    decodeWord band (pack g f9 f6 m r) ext = i := by
  rw [decodeWord_eq h, fields_pack, hi]

theorem decodeWord_scc {ea : EA} (h : band.contains (eaWord 5#4 f9 f6 ea) = false)
    (hea : Fits .dataalt .b ea) (hf : f6 = 3#3 ∨ f6 = 7#3) (hi : sccOf (f9 ++ f6.extractLsb' 2 1) ea = i) :
    decodeWord band (eaWord 5#4 f9 f6 ea) (ea.ext .b ++ more) = i := by
  rw [← condField_pack (g := 5#4) (m := ea.modeBits) (r := ea.regBits)] at hi
  rcases hf with rfl | rfl <;>
    exact decodeWord_pack h ((if_neg hea.modeBits_ne).trans ((withEA_ext hea).trans hi))

theorem decodeWord_dbcc (h : band.contains (pack 5#4 f9 f6 1#3 r) = false) (hf : f6 = 3#3 ∨ f6 = 7#3)
    (hi : dbccOf (f9 ++ f6.extractLsb' 2 1) r.toFin (extAt ext 0) = i) :
    decodeWord band (pack 5#4 f9 f6 1#3 r) ext = i := by
  rw [← condField_pack (g := 5#4) (m := 1#3) (r := r)] at hi
  rcases hf with rfl | rfl <;> exact decodeWord_pack h hi

theorem branchWord_eq (cc : BitVec 4) (d : BranchDisp) :
    branchWord cc d = 6#4 ++ cc ++ (match d with | .short d8 => d8 | .word _ => 0#8) := by
  cases d <;> rfl

theorem condField_branchWord (cc : BitVec 4) (d : BranchDisp) : condField (branchWord cc d) = cc := by
  rw [branchWord_eq, condField, BitVec.extractLsb'_append_eq_of_le (Nat.le_refl 8)]
  exact BitVec.extractLsb'_append_eq_right

theorem branchDispOf_branchWord {cc : BitVec 4} {d : BranchDisp} (h : d.wf = true) (more : List Word) :
    branchDispOf (branchWord cc d) (d.ext ++ more) = d := by
  have hlow (d8 : Byte) : (6#4 ++ cc ++ d8 : Word).setWidth 8 = d8 := BitVec.setWidth_append_eq_right
  cases d with
  | short d8 =>
    have hne : d8 ≠ 0#8 := of_decide_eq_true h
    simp only [branchDispOf, branchWord, hlow, hne, if_false]
  | word d16 =>
    simp only [branchDispOf, branchWord, hlow, if_true]
    rfl

theorem decodeWord_branch {cc : BitVec 4} {d : BranchDisp} {k : BranchDisp → Instr}
    (h : band.contains (branchWord cc d) = false) (hd : d.wf = true)
    (hk : ∀ w ext, condField w = cc → decode6 w ext = k (branchDispOf w ext)) :
    decodeWord band (branchWord cc d) (d.ext ++ more) = k d := by
  have hg : (fields (branchWord cc d)).g = 6#4 := by
    rw [branchWord_eq]
    exact (BitVec.extractLsb'_append_eq_of_le (by decide)).trans BitVec.extractLsb'_append_eq_left
  rw [decodeWord_eq h]
  simp only [decodeGroup, hg, hk _ _ (condField_branchWord cc d), branchDispOf_branchWord hd]

theorem decodeWord_moveq {data : Byte} (h : band.contains (quickByteWord 7#4 f9 0#1 data) = false) :
    decodeWord band (quickByteWord 7#4 f9 0#1 data) ext = .moveq f9.toFin data := by
  have hg : (fields (quickByteWord 7#4 f9 0#1 data)).g = 7#4 :=
    (BitVec.extractLsb'_append_eq_of_le (by decide)).trans <|
      (BitVec.extractLsb'_append_eq_of_le (by decide)).trans BitVec.extractLsb'_append_eq_left
  have h9 : (fields (quickByteWord 7#4 f9 0#1 data)).f9 = f9 :=
    (BitVec.extractLsb'_append_eq_of_le (by decide)).trans <|
      (BitVec.extractLsb'_append_eq_of_le (by decide)).trans BitVec.extractLsb'_append_eq_right
  have h8 : (quickByteWord 7#4 f9 0#1 data).getLsbD 8 = false := by
    simp only [quickByteWord, BitVec.getLsbD_append]
    rfl
  have hdata : (quickByteWord 7#4 f9 0#1 data).setWidth 8 = data := BitVec.setWidth_append_eq_right
  rw [decodeWord_eq h]
  simp only [decodeGroup, hg, h9, decode7, h8, hdata, Bool.false_eq_true, if_false]

theorem decodeWord_trap {v : BitVec 4} (hm : m = 0#3 ∨ m = 1#3) (hv : (pack 4#4 7#3 1#3 m r).setWidth 4 = v)
    (h : band.contains (pack 4#4 7#3 1#3 m r) = false) :
    decodeWord band (pack 4#4 7#3 1#3 m r) ext = .trap v := by
  subst hv
  rcases hm with rfl | rfl <;> exact decodeWord_pack h rfl

theorem trap_modeBits (v : BitVec 4) :
    (0#2 ++ v.extractLsb' 3 1 : BitVec 3) = 0#3 ∨ (0#2 ++ v.extractLsb' 3 1 : BitVec 3) = 1#3 := by
  revert v
  decide

theorem trap_setWidth (v : BitVec 4) :
    (pack 4#4 7#3 1#3 (0#2 ++ v.extractLsb' 3 1) (v.extractLsb' 0 3)).setWidth 4 = v := by
  revert v
  decide

theorem setWidth_modeBits (n : ShiftCount) (ty : BitVec 2) : (n.modeBits ty).setWidth 2 = ty := by
  cases n <;> exact BitVec.setWidth_append_eq_right

theorem shiftCountOf_pack (n : ShiftCount) (ty : BitVec 2) :
    shiftCountOf ⟨g, n.bits, f6, n.modeBits ty, r⟩ = n := by
  have hbit (b : BitVec 1) : (b ++ ty : BitVec 3).getLsbD 2 = b.getLsbD 0 := by
    revert b ty
    decide
  cases n <;> simp only [shiftCountOf, ShiftCount.modeBits, hbit] <;> rfl

/-- The type and the size of a register-form shift choose the instruction (R291). -/
theorem decodeWord_shift {n : ShiftCount} {ty : BitVec 2} {k : ShiftCount → RegNo → Instr}
    (h : band.contains (pack 14#4 n.bits f6 (n.modeBits ty) r) = false)
    (hk : ∀ w f ext, f.f6 = f6 → f.m.setWidth 2 = ty → decodeE w f ext = k (shiftCountOf f) f.r.toFin) :
    decodeWord band (pack 14#4 n.bits f6 (n.modeBits ty) r) ext = k n r.toFin := by
  refine decodeWord_pack h ((hk _ _ _ rfl (setWidth_modeBits n ty)).trans ?_)
  rw [shiftCountOf_pack]

theorem decodeWord_line {low : BitVec 12} {k : BitVec 12 → Instr} (h : band.contains (g ++ low) = false)
    (hk : ∀ w f ext, f.g = g → decodeGroup w f ext = k (w.setWidth 12)) :
    decodeWord band (g ++ low) ext = k low := by
  rw [decodeWord_eq h, hk _ _ _ BitVec.extractLsb'_append_eq_left]
  exact congrArg k BitVec.setWidth_append_eq_right

end

/-! Every instruction. -/

section
variable {band : HostBand} {i : Instr} (more : List Word) (hwf : i.wf band = true)
include hwf

/-- Outside the band each opcode word takes its instruction's branch of the decoder. -/
theorem decodeWord_encode_outside (hb : band.contains ((encode i).headD 0#16) = false) :
    decodeWord band ((encode i).headD 0#16) ((encode i).tail ++ more) = i := by
  cases i with
  | hosttrap w => exact absurd (hwf.symm.trans hb) (by decide)
  -- no operand but registers and words
  | oriToSr | andiToSr | eoriToSr | swap | extW | extL | movepLoadW | movepLoadL | movepStoreW | movepStoreL
  | illegal | link | unlk | moveToUsp | moveFromUsp | reset | nop | stop | rte | rts | trapv | rtr
  | exgDD | exgAA | exgDA | cmpmB | cmpmW | cmpmL =>
    exact decodeWord_pack hb rfl
  | oriToCcr | andiToCcr | eoriToCcr => exact decodeWord_pack hb (congrArg _ (extByteAt_extByte _ _))
  | sbcd form | subxB form | subxW form | subxL form | abcd form | addxB form | addxW form | addxL form =>
    cases form <;> exact decodeWord_pack hb rfl
  | trap v => exact decodeWord_trap (trap_modeBits v) (trap_setWidth v) hb
  | moveq => exact decodeWord_moveq hb
  -- an effective address alone, or after a mask or an immediate word
  | negxB | negxW | negxL | moveFromSr | chk | lea | clrB | clrW | clrL | negB | negW | negL | moveToCcr
  | notB | notW | notL | moveToSr | nbcd | tstB | tstW | tstL | jsr | jmp | addqB | addqW | addqL
  | subqB | subqW | subqL | orEaDnB | orEaDnW | orEaDnL | divu | divs | orDnEaW | orDnEaL
  | subEaDnB | subEaDnW | subEaDnL | subaW | subaL | cmpB | cmpW | cmpL | cmpaW | cmpaL
  | andEaDnB | andEaDnW | andEaDnL | mulu | muls | addEaDnB | addEaDnW | addEaDnL | addaW | addaL
  | asrMem | aslMem | lsrMem | lslMem | roxrMem | roxlMem | rorMem | rolMem | moveaW | moveaL
  | movemLoadW | movemLoadL | subiW | addiW | cmpiW =>
    exact decodeWord_pack hb (withEA_ext hwf)
  | subiB | addiB | cmpiB | btstImm | bchgImm | bclrImm | bsetImm =>
    exact decodeWord_pack hb (withEA_extByte hwf)
  | subiL | addiL | cmpiL => exact decodeWord_pack hb (withEA_extLong hwf)
  -- an effective address that is none of another instruction with the same upper bits
  | btstReg | bchgReg | bclrReg | bsetReg | eorB | eorW | eorL | andDnEaL | pea | movemStoreW | movemStoreL =>
    exact decodeWord_pack hb ((if_neg (Fits.modeBits_ne hwf)).trans (withEA_ext hwf))
  | tas => exact decodeWord_pack hb ((if_neg (Fits.eaWord_ne hwf)).trans (withEA_ext hwf))
  | oriB | andiB | eoriB =>
    exact decodeWord_pack hb ((if_neg (Fits.eaWord_ne hwf)).trans
      ((if_neg (Fits.eaWord_ne hwf)).trans (withEA_extByte hwf)))
  | oriW | andiW | eoriW =>
    exact decodeWord_pack hb ((if_neg (Fits.eaWord_ne hwf)).trans
      ((if_neg (Fits.eaWord_ne hwf)).trans (withEA_ext hwf)))
  | oriL | andiL | eoriL =>
    exact decodeWord_pack hb ((if_neg (Fits.eaWord_ne hwf)).trans
      ((if_neg (Fits.eaWord_ne hwf)).trans (withEA_extLong hwf)))
  | orDnEaB | subDnEaB | subDnEaW | subDnEaL | andDnEaB | addDnEaB | addDnEaW | addDnEaL =>
    exact decodeWord_pack hb ((match_rxFormOf_memalt hwf).trans (withEA_ext hwf))
  | andDnEaW => exact decodeWord_pack hb ((match_modeBits_memalt hwf).trans (withEA_ext hwf))
  -- two effective addresses
  | moveB =>
    obtain ⟨hsrc, hdst⟩ := fits_of_move hwf
    exact decodeWord_pack hb (decodeMove_ext hsrc hdst)
  | moveL | moveW =>
    obtain ⟨hsrc, hdst⟩ := fits_of_move hwf
    exact decodeWord_pack hb ((if_neg hdst.modeBits_ne).trans (decodeMove_ext hsrc hdst))
  -- a condition
  | st | sf | shi | sls | scc | scs | sne | seq | svc | svs | spl | smi | sge | slt | sgt | sle =>
    exact decodeWord_scc hb hwf (by decide) rfl
  | dbt | dbf | dbhi | dbls | dbcc | dbcs | dbne | dbeq | dbvc | dbvs | dbpl | dbmi | dbge | dblt | dbgt | dble =>
    exact decodeWord_dbcc hb (by decide) rfl
  | bra | bsr | bhi | bls | bcc | bcs | bne | beq | bvc | bvs | bpl | bmi | bge | blt | bgt =>
    exact decodeWord_branch hb hwf fun w ext hcc => by simp only [decode6, hcc]
  | ble =>
    exact decodeWord_branch hb hwf fun w ext hcc => by
      simp only [decode6, hcc]
      rfl
  -- a shift of a register
  | asrRegB | asrRegW | asrRegL | aslRegB | aslRegW | aslRegL | lsrRegB | lsrRegW | lsrRegL | lslRegB
  | lslRegW | lslRegL | roxrRegB | roxrRegW | roxrRegL | roxlRegB | roxlRegW | roxlRegL | rorRegB | rorRegW
  | rorRegL | rolRegB | rolRegW | rolRegL =>
    exact decodeWord_shift hb fun w f ext h6 hty => by
      simp only [decodeE, h6, hty]
      rfl
  -- the catch-all words
  | linea => exact decodeWord_line hb fun w f ext hg => by simp only [decodeGroup, hg]
  | linef =>
    exact decodeWord_line hb fun w f ext hg => by
      simp only [decodeGroup, hg]
      rfl
  | illegalFiller w =>
    exact (fillerIsExactlyTheUnclaimedWords band w _ hb).mpr (Bool.and_eq_true_iff.mp hwf).1

/-- An instruction's words decode to it, whatever words follow. -/
theorem decodeWord_encode (hclear : ClearOfBand band i) :
    decodeWord band ((encode i).headD 0#16) ((encode i).tail ++ more) = i := by
  cases hb : band.contains ((encode i).headD 0#16) with
  | false => exact decodeWord_encode_outside more hwf hb
  | true =>
    obtain ⟨w, rfl⟩ := hclear.mp hb
    exact if_pos hb

end

/-! The same on bytes (R63). -/

theorem wordsOfBytes_wordBytes (ws : List Word) (rest : List Byte) :
    wordsOfBytes (ws.flatMap wordBytes ++ rest) = ws ++ wordsOfBytes rest := by
  induction ws with
  | nil => rfl
  | cons w ws ih =>
    have hw : (w.extractLsb' 8 8 ++ w.extractLsb' 0 8 : Word) = w :=
      (BitVec.extractLsb'_append_extractLsb'_eq_extractLsb' (by decide)).trans BitVec.extractLsb'_eq_self
    show (_ ++ _ : Word) :: wordsOfBytes (ws.flatMap wordBytes ++ rest) = _
    rw [ih, hw, List.cons_append]

theorem length_flatMap_wordBytes (ws : List Word) : (ws.flatMap wordBytes).length = 2 * ws.length := by
  induction ws with
  | nil => rfl
  | cons w ws ih =>
    rw [List.flatMap_cons, List.length_append, ih, List.length_cons, Nat.mul_succ, Nat.add_comm]
    rfl

/-- Settles O2: the bytes are the words of the instruction, which decode to it, and `length_encode` says how
many of them `decode` drops. -/
theorem decodeOfEncodeIsTheInstruction : Obligations.DecodeOfEncodeIsTheInstruction := by
  intro band i rest hwf hclear
  obtain ⟨hlen, -, -⟩ := length_encode i
  have hdecode := decodeWord_encode (wordsOfBytes rest) hwf hclear
  have hdrop : ((encode i).flatMap wordBytes ++ rest).drop (2 * i.length) = rest :=
    List.drop_left' ((length_flatMap_wordBytes _).trans (congrArg (2 * ·) hlen))
  have hwords : wordsOfBytes ((encode i).flatMap wordBytes ++ rest)
      = (encode i).headD 0#16 :: ((encode i).tail ++ wordsOfBytes rest) := by
    rw [wordsOfBytes_wordBytes, ← List.cons_append, ← encode_eq_cons]
  have hle : i.length ≤ ((encode i).tail ++ wordsOfBytes rest).length + 1 := by
    rw [List.length_append, List.length_tail]
    omega
  simp only [decode, hwords, hdecode, hle, hdrop, if_true]

end Sys2Proof.Proofs
end

section
/-! One step on an encoded instruction (R146 to R149): O5. -/

namespace Sys2Proof.Proofs

open Sys2Proof.Machine Sys2Proof.Claims Sys2Proof.Laws

section
variable {s : State}

/-- A step that makes no call, takes no interrupt and is not stopped fetches, runs and traces (R149). -/
theorem step_eq_runInstr (hcall : NoCall s) (hint : interruptTaken (boundary s) = false)
    (hstop : s.stopped = false) :
    step s = andThen (runInstr (boundary s)) (traceAfter (opcodeAt s)) := by
  have hfetch : cycleFetch (boundary s) = andThen (runInstr (boundary s)) (traceAfter (opcodeAt s)) :=
    if_neg (hstop ▸ Bool.false_ne_true)
  rw [step, deliverInputs_of_noCall hcall, cycle, takeInterrupt, hint, ← hfetch]
  rfl

/-- Step 4 (R148), with the number of the trace vector and RTE's opcode word written out. -/
theorem traceAfter_eq (op : Word) (t : State) :
    traceAfter op t = if t.sr.t = true ∧ op ≠ 0x4E73#16 then enterException 9 t else .next t := by
  show (if t.sr.t && decide (op ≠ 0x4E73#16) then enterException 9 t else .next t) = _
  simp only [Bool.and_eq_true, decide_eq_true_eq]

/-- The words read ahead begin with the extension words of the instruction at `pc`. -/
theorem streamExt_eq_append {w : Word} {ws : List Word} (h : StreamHolds s (w :: ws)) (hle : ws.length ≤ 4) :
    s.streamExt = ws ++ s.streamExt.drop ws.length := by
  have hext : s.streamExt = (List.range 4).map (fun k => s.streamWord (k + 1)) := rfl
  have htake : s.streamExt.take ws.length = ws := by
    apply List.ext_getElem
    · rw [hext]
      simpa using hle
    · intro k _ hk
      have hword := h (k + 1) (Nat.succ_lt_succ hk)
      simp only [hext, List.getElem_take, List.getElem_map, List.getElem_range, hword]
      simp [hk]
  conv_lhs => rw [← List.take_append_drop ws.length s.streamExt, htake]

/-- The fetch reads the instruction whose words stand at `pc` (R146). -/
theorem fetchInstr_of_streamHolds {i : Instr} (hwf : i.wf s.config.band = true)
    (hclear : ClearOfBand s.config.band i) (h : StreamHolds s (encode i)) :
    fetchInstr s = i ∧ opcodeAt s = (encode i).headD 0#16 := by
  obtain ⟨hlen, -, hmax⟩ := length_encode i
  have hdecode := fun more => decodeWord_encode more hwf hclear
  rw [encode_eq_cons] at h
  have hop : s.streamWord 0 = (encode i).headD 0#16 := h 0 (Nat.succ_pos _)
  have htail : (encode i).tail.length ≤ 4 := by
    rw [List.length_tail, hlen]
    exact Nat.sub_le_of_le_add hmax
  refine ⟨?_, hop⟩
  rw [fetchInstr, hop, streamExt_eq_append h htail, hdecode]

end

/-- Settles O5: the words at `pc` decode to the instruction, and the step runs what it fetches. -/
theorem stepRunsTheEncodedInstruction : Obligations.StepRunsTheEncodedInstruction := by
  intro s i hcall hint hstop hwf hclear hstream
  obtain ⟨hfetch, hop⟩ := fetchInstr_of_streamHolds hwf hclear hstream
  have hrun : runInstr (boundary s) = exec i ((boundary s).consume 1) :=
    congrArg (exec · ((boundary s).consume 1)) hfetch
  rw [step_eq_runInstr hcall hint hstop, hrun, hop]
  simp only [funext (traceAfter_eq _)]

end Sys2Proof.Proofs
end

section
/-! The cycle (R145 to R152): the trace exception after an instruction, the stopped machine, and the interrupt
taken before the fetch: O4, O6, O7, O8. -/

namespace Sys2Proof.Proofs

open Sys2Proof.Machine Sys2Proof.Claims Sys2Proof.Laws

/-! The answer of an exception (R428, R430). -/

section
variable {s t u : State} {v : Nat} {ra : Long} {generic : Bool}

/-- An entry goes on to the target of its vector. -/
theorem takes_of_entered (h : Entered ra generic s u) (hv : u.vectorTarget v ≠ 0#32) :
    ∃ t, u.jumpVector v = .next t ∧ Takes v ra generic s t :=
  ⟨_, if_neg hv, u, h, hv, rfl⟩

/-- An entry is fatal where its vector has no target. -/
theorem fails_of_entered (h : Entered ra generic s u) (hv : u.vectorTarget v = 0#32) :
    Fails v ra generic s (u.jumpVector v) :=
  ⟨u, h, hv, if_pos hv⟩

theorem raises_enterException (v : Nat) (s : State) : Raises v s (enterException v s) :=
  ⟨takes_of_entered (entered_entryState s), fails_of_entered (entered_entryState s)⟩

theorem takes_config (h : Takes v ra generic s t) : t.config = s.config := by
  obtain ⟨u, hu, -, rfl⟩ := h
  exact hu.host.config

theorem takes_mask (h : Takes v ra generic s t) : t.sr.i = s.sr.i := by
  obtain ⟨u, hu, -, rfl⟩ := h
  exact hu.mask

/-- The generic entry clears the trace bit. -/
theorem takes_trace (h : Takes v ra true s t) : t.sr.t = false := by
  obtain ⟨u, hu, -, rfl⟩ := h
  exact hu.trace

/-- The generic entry ends the stopped state. -/
theorem takes_stopped (h : Takes v ra true s t) : t.stopped = false := by
  obtain ⟨u, hu, -, rfl⟩ := h
  exact hu.stopped

/-- A fatal exception ends the cycle. -/
theorem fails_andThen {r : Result} (h : Fails v ra generic s r) (k : State → Result) :
    Fails v ra generic s (andThen r k) := by
  obtain ⟨u, hu, hv, rfl⟩ := h
  exact ⟨u, hu, hv, rfl⟩

/-- An instruction that ends in the generic entry is not traced, as the entry clears the trace bit (R148). -/
theorem andThen_enterException_traceAfter (v : Nat) (op : Word) (s : State) :
    andThen (enterException v s) (traceAfter op) = enterException v s := by
  obtain ⟨htakes, hfails⟩ := raises_enterException v s
  by_cases hv : s.entryState.vectorTarget v = 0#32
  · obtain ⟨u, -, -, hfault⟩ := hfails hv
    rw [hfault]
    rfl
  · obtain ⟨t, ht, htaken⟩ := htakes hv
    rw [ht]
    refine (traceAfter_eq op t).trans (if_neg ?_)
    simp [takes_trace htaken]

end

/-! The step where no interrupt is taken (R146 to R152). -/

section
variable {s : State} (hcall : NoCall s) (hint : interruptTaken (boundary s) = false)
include hcall hint

/-- The step runs the instruction it fetches, and then makes the trace test. -/
theorem step_of_fetchInstr (hstop : s.stopped = false) {i : Instr} (hfetch : fetchInstr (boundary s) = i) :
    step s = andThen (exec i ((boundary s).consume 1)) (traceAfter (opcodeAt s)) := by
  rw [step_eq_runInstr hcall hint hstop, runInstr, hfetch]

/-- After an instruction that goes on, the step is the trace test. -/
theorem step_of_runInstr_next (hstop : s.stopped = false) {t : State}
    (hrun : runInstr (boundary s) = .next t) :
    step s = if t.sr.t = true ∧ opcodeAt s ≠ 0x4E73#16 then enterException 9 t else .next t := by
  rw [step_eq_runInstr hcall hint hstop, hrun, ← traceAfter_eq]
  rfl

end

/-- Settles O4: `step_of_fetchInstr`, with the trace test written out. -/
theorem stepRunsTheDecodedInstruction : Obligations.StepRunsTheDecodedInstruction := by
  intro s i hcall hint hstop hdecode
  rw [step_of_fetchInstr hcall hint hstop hdecode]
  simp only [funext (traceAfter_eq _)]

/-- Settles O6: neither step 1 nor step 2 of the cycle happens. -/
theorem stoppedMachineIdles : Obligations.StoppedMachineIdles := by
  intro s hcall hstop hint
  rw [step, deliverInputs_of_noCall hcall, cycle, takeInterrupt, hint]
  exact if_pos hstop

/-- Settles O8: the trace test on the state the instruction leaves; a software trap ends in the generic entry,
which clears the trace bit. -/
theorem traceFollowsTheInstruction : Obligations.TraceFollowsTheInstruction := by
  intro s hcall hint hstop
  refine ⟨fun t hrun htrace hop => ?_, fun t hrun hno => ?_, fun v hfetch => ?_⟩
  · rw [step_of_runInstr_next hcall hint hstop hrun, if_pos ⟨htrace, hop⟩]
    exact raises_enterException 9 t
  · refine (step_of_runInstr_next hcall hint hstop hrun).trans (if_neg ?_)
    rintro ⟨htrace, hop⟩
    rcases hno with hclear | hrte
    · exact Bool.false_ne_true (hclear.symm.trans htrace)
    · exact hop hrte
  · rw [step_of_fetchInstr hcall hint hstop hfetch]
    exact andThen_enterException_traceAfter (vecTrapBase + v.toNat) _ _

/-! The interrupt (R145, R436). -/

section
variable {s t : State}

/-- The latch is set and gating does not hold the interrupt off. -/
theorem interruptTaken_of_pending (hpend : s.irqPending = true)
    (hgate : s.config.intMaskGating = true → s.sr.i.toNat < s.config.intLevel.toNat) :
    interruptTaken s = true := by
  rw [interruptTaken, hpend]
  cases hg : s.config.intMaskGating with
  | false => rfl
  | true => simpa using hgate hg

/-- `raiseMask` after an entry: the level where gating is on, else the mask as it was. -/
theorem raiseMask_eq (hc : t.config = s.config) (hm : t.sr.i = s.sr.i) :
    raiseMask t = { t with sr := { t.sr with
      i := if s.config.intMaskGating = true then s.config.intLevel else s.sr.i } } := by
  rw [raiseMask, ← hc, ← hm]
  split <;> rfl

theorem raiseMask_stopped (s : State) : (raiseMask s).stopped = s.stopped := by
  rw [raiseMask]
  split <;> rfl

/-- The step takes the interrupt, and then is the rest of the cycle on the state with the mask raised. -/
theorem step_of_interruptTaken (hcall : NoCall s) (hint : interruptTaken (boundary s) = true) :
    step s = andThen (andThen
      (enterException s.config.extIntVector { boundary s with irqPending := false, stopped := false })
      (fun t => .next (raiseMask t))) cycleFetch := by
  rw [step, deliverInputs_of_noCall hcall, cycle, takeInterrupt, hint]
  rfl

/-- The rest of a cycle that is not stopped. -/
theorem cycleFetch_of_running (h : s.stopped = false) :
    cycleFetch s = andThen (runInstr s) (traceAfter (s.streamWord 0)) :=
  if_neg (h ▸ Bool.false_ne_true)

end

/-- Settles O7: the generic entry from the state with the latch and the stopped state cleared; it keeps the
configuration and the mask, and leaves a running machine, which fetches in the same step. -/
theorem pendingInterruptIsTakenFirst : Obligations.PendingInterruptIsTakenFirst := by
  rintro s s0 hcall hpend hgate rfl
  rw [step_of_interruptTaken hcall (interruptTaken_of_pending (s := boundary s) hpend hgate)]
  obtain ⟨htakes, hfails⟩ := raises_enterException s.config.extIntVector
    { boundary s with irqPending := false, stopped := false }
  refine ⟨fun hv => ?_, fun hv => fails_andThen (fails_andThen (hfails hv) _) _⟩
  obtain ⟨t, ht, htaken⟩ := htakes hv
  have hraised := raiseMask_eq (takes_config htaken) (takes_mask htaken)
  refine ⟨t, raiseMask t, htaken, hraised, ?_⟩
  rw [ht, ← cycleFetch_of_running ((raiseMask_stopped t).trans (takes_stopped htaken))]
  rfl

end Sys2Proof.Proofs
end

section
/-! The addressing modes (R160 to R180) and the statement about the address of a memory operand: O23. Every part
of an address is the class of an integer modulo `2^32`, so that sums of addresses are sums of integers. -/

namespace Sys2Proof.Proofs

open Sys2Proof.Machine Sys2Proof.Claims Sys2Proof.Laws

/-- Sign extension keeps the integer (R7). -/
theorem signExtend_eq_ofInt {w : Nat} (d : BitVec w) : d.signExtend 32 = BitVec.ofInt 32 d.toInt := rfl

theorem sext_eq_ofInt (sz : Size) (v : Long) : sext sz v = BitVec.ofInt 32 (sval sz v) := by
  rw [← sext_toInt, BitVec.ofInt_toInt]

/-- A whole register as an integer (R7). -/
theorem eq_ofInt_toNat (v : Long) : v = BitVec.ofInt 32 v.toNat := by
  rw [BitVec.ofInt_natCast, BitVec.ofNat_toNat, BitVec.setWidth_eq]

/-- The program counter as a byte address (R25). -/
theorem pcb_eq_ofInt (s : State) : s.pcb = BitVec.ofInt 32 (2 * s.pc.toNat) :=
  (eq_ofInt_toNat s.pcb).trans (by rw [pcb_toNat, Nat.cast_mul, Nat.cast_ofNat])

/-- The unified numbers of the registers (R23): address registers follow the data registers. -/
theorem xreg_xData (s : State) (r : RegNo) : s.xreg (xData r) = s.dreg r := dif_pos r.isLt

theorem xreg_xAddr (s : State) (r : RegNo) : s.xreg (xAddr r) = s.areg r :=
  dif_neg (Nat.not_lt.2 (Nat.le_add_left 8 r.val))

/-- The index of a brief extension word: a whole register, or its low word sign-extended (R175). -/
theorem indexValue_eq_ofInt (s : State) (x : Brief) :
    s.indexValue x = BitVec.ofInt 32
      (if x.isLong = true then ((if x.isAddr = true then s.areg x.xreg else s.dreg x.xreg).toNat : Int)
       else sval .w (if x.isAddr = true then s.areg x.xreg else s.dreg x.xreg)) := by
  have hreg : s.xreg (if x.isAddr then xAddr x.xreg else xData x.xreg)
      = if x.isAddr = true then s.areg x.xreg else s.dreg x.xreg := by
    rw [apply_ite s.xreg, xreg_xAddr, xreg_xData]
  rw [State.indexValue, hreg]
  split
  · exact eq_ofInt_toNat _
  · exact sext_eq_ofInt .w _

/-- Settles O23: a mode with no sum is the resolver's own case; where an address is a sum, each of its parts is
an integer's class and so is the sum. -/
theorem addressingModesLocateTheirOperand : Obligations.AddressingModesLocateTheirOperand := by
  intro s sz r
  refine ⟨rfl, rfl, ?preDec, fun _ => rfl, fun x => ?index, fun _ => rfl, fun _ => rfl, fun d => ?pcDisp,
    fun x => ?pcIndex⟩
  case preDec => rw [locate, incOf_eq_modeStep]
  case index => rw [locate, signExtend_eq_ofInt, indexValue_eq_ofInt, BitVec.add_assoc, BitVec.ofInt_add]
  case pcDisp => rw [locate, pcb_eq_ofInt, signExtend_eq_ofInt, BitVec.ofInt_add]
  case pcIndex =>
    rw [locate, pcb_eq_ofInt, signExtend_eq_ofInt, indexValue_eq_ofInt, BitVec.ofInt_add, BitVec.ofInt_add]

end Sys2Proof.Proofs
end

section
/-! The condition codes (R190 to R206): the flags of a compare as the order of its operands, and what the tests
of R205 read in them: O42. -/

namespace Sys2Proof.Proofs

open Sys2Proof.Machine Sys2Proof.Claims Sys2Proof.Laws

/-! The order of two operands and their difference. -/

theorem sval_eq_sval_iff (sz : Size) (s d : Long) : sval sz d = sval sz s ↔ uval sz d = uval sz s := by
  have hs := uval_lt sz s
  have hd := uval_lt sz d
  cases sz <;> simp only [sval, sizeBits] at * <;> omega

theorem zeroAt_differenceOf_iff (sz : Size) (s d : Long) :
    ZeroAt sz (differenceOf sz s d false) ↔ uval sz d = uval sz s := by
  have hs := uval_lt sz s
  have hd := uval_lt sz d
  cases sz <;> simp only [ZeroAt, differenceOf, Bool.toNat_false, sizeBits] at * <;> omega

/-- The sign bit of a difference tells the signed order, and tells it wrongly exactly on overflow (R192). -/
theorem signBit_differenceOf_iff (sz : Size) (s d : Long) :
    2 ^ (sizeBits sz - 1) ≤ differenceOf sz s d false % 2 ^ sizeBits sz
      ↔ (sval sz d < sval sz s ↔ ¬ signedOverflow sz (sval sz d - sval sz s)) := by
  have hs := uval_lt sz s
  have hd := uval_lt sz d
  cases sz <;> simp only [signedOverflow, sval, differenceOf, Bool.toNat_false, sizeBits] at * <;> omega

/-! The flags of a compare (R193). -/

theorem compareFlags_flagsCmp (sz : Size) (s d : Long) (old : Flags) :
    CompareFlags sz s d old (flagsCmp old sz s d (trunc sz (d - s))) := by
  obtain ⟨hborrow, -, hz⟩ := subFlags_flagsSub sz s d
  exact ⟨hborrow, rfl, hz⟩

section
variable {sz : Size} {s d : Long} {old f : Flags} (h : CompareFlags sz s d old f)
include h

theorem z_iff_of_compareFlags : f.z = true ↔ uval sz d = uval sz s := by
  obtain ⟨-, -, hz⟩ := h
  exact hz.trans (zeroAt_differenceOf_iff sz s d)

theorem c_iff_of_compareFlags : f.c = true ↔ uval sz d < uval sz s := by
  obtain ⟨⟨hc, -⟩, -⟩ := h
  simpa using hc

/-- The sign bit is wrong exactly on overflow, so `N = V` reads the signed order in both cases (R206). -/
theorem n_eq_v_iff_of_compareFlags : f.n = f.v ↔ sval sz s ≤ sval sz d := by
  obtain ⟨⟨-, hv, hn⟩, -⟩ := h
  have hv : f.v = true ↔ signedOverflow sz (sval sz d - sval sz s) := by simpa using hv
  have hn := hn.trans (signBit_differenceOf_iff sz s d)
  rw [Bool.eq_iff_iff, hn, hv, ← not_lt]
  by_cases hover : signedOverflow sz (sval sz d - sval sz s) <;> simp [hover]

end

/-- Settles O42: `Z` is equality, `C` the unsigned order and `N = V` the signed order, and each test of R205 is
a combination of the three. -/
theorem conditionsAfterACompareReadTheOrder : Obligations.ConditionsAfterACompareReadTheOrder := by
  intro sz s d old f hf
  have h := compareFlags_flagsCmp sz (trunc sz s) (trunc sz d) old
  rw [← hf] at h
  have hz := z_iff_of_compareFlags h
  have hc := c_iff_of_compareFlags h
  have hnv := n_eq_v_iff_of_compareFlags h
  simp only [uval_trunc, sval_trunc] at hz hc hnv
  have hsigned := sval_eq_sval_iff sz s d
  simp only [← condTrue_iff, CondTrue, ← Bool.not_eq_true, ne_eq, hz, hc, hnv, true_and]
  -- Left are the ten combinations as statements about the order of the four numbers.
  omega

end Sys2Proof.Proofs
end

section
/-! Data movement (R211 to R225) and the instructions of one operand: what an instruction without system effect
keeps, a write through a resolved operand, whole registers and the stack: O24 to O28. -/

namespace Sys2Proof.Proofs

open Sys2Proof.Machine Sys2Proof.Claims Sys2Proof.Laws

/-! What an instruction without system effect keeps. -/

section
variable {i : Instr} {ea : EA} {sz : Size} {s t : State}

/-- A harmless instruction that draws nothing and goes past its words. -/
theorem ordinary_of_harmless (h : Harmless s t) (hdraws : t.draws = s.draws) {k : Nat}
    (hlen : i.length = 1 + k) (hpc : t.pc = s.pc + BitVec.ofNat 31 k) : Ordinary i s t :=
  ⟨⟨h.system, by rw [hpc, hlen, Nat.add_sub_cancel_left]⟩, hdraws⟩

/-- An instruction of one word. -/
theorem ordinary_of_harmless_one (h : Harmless s t) (hdraws : t.draws = s.draws) (hlen : i.length = 1)
    (hpc : t.pc = s.pc) : Ordinary i s t :=
  ordinary_of_harmless h hdraws (k := 0) hlen (hpc.trans (BitVec.add_zero _).symm)

theorem ordinary_afterLocate (hlen : i.length = 1 + ea.words sz) : Ordinary i s (afterLocate ea sz s) :=
  ordinary_of_harmless (Harmless.refl s).afterLocate (afterLocate_draws s ea sz) hlen (afterLocate_pc s ea sz)

/-- A further update that keeps the system state, `pc` and the draws. -/
theorem ordinary_keep (h : Ordinary i s t) {u : State} (k : Harmless t u) (hdraws : u.draws = t.draws)
    (hpc : u.pc = t.pc) : Ordinary i s u :=
  ⟨⟨keepsSystem_trans h.advances.system k.system, hpc.trans h.advances.pc⟩, hdraws.trans h.draws⟩

theorem ordinary_setFlags (h : Ordinary i s t) (f : Flags) : Ordinary i s (t.setFlags f) :=
  ordinary_keep h (Harmless.refl t).setFlags rfl rfl

theorem ordinary_setA (h : Ordinary i s t) (r : RegNo) (v : Long) : Ordinary i s (t.setA r v) :=
  ordinary_keep h (Harmless.refl t).setA rfl rfl

theorem ordinary_writeOp (h : Ordinary i s t) (l : Loc) (v : Long) : Ordinary i s (t.writeOp l sz v) :=
  ordinary_keep h (Harmless.refl t).writeOp (t.writeOp_draws l sz v) (t.writeOp_pc l sz v)

end

/-! The flags of a logic operation depend on the size's bits alone (R195). -/

theorem logicFlags_congr {sz : Size} {v w : Nat} {old f : Flags}
    (h : v % 2 ^ sizeBits sz = w % 2 ^ sizeBits sz) (k : LogicFlags sz v old f) : LogicFlags sz w old f := by
  simpa only [LogicFlags, ZeroAt, h] using k

/-! A write through a resolved operand (R178, R180). -/

/-- The state after an operand has been resolved and `v` written to it. -/
def writeResolved (ea : EA) (sz : Size) (v : Long) (s : State) : State :=
  (afterLocate ea sz s).writeOp (locate ea sz s) sz v

section
variable {i : Instr} {c : Category} {ea : EA} {sz : Size} {v : Long} {n : Nat} {s t : State}

theorem Fits.member (h : Fits c sz ea) : c.member ea = true := by
  simp only [Fits, Category.admits, Bool.and_eq_true] at h
  exact h.1.1

theorem Fits.wf (h : Fits c sz ea) : ea.wf sz = true := (Bool.and_eq_true_iff.mp h).2

theorem ordinary_writeResolved (hlen : i.length = 1 + ea.words sz) : Ordinary i s (writeResolved ea sz v s) :=
  ordinary_writeOp (ordinary_afterLocate hlen) _ _

theorem writes_writeResolved (hea : Fits .dataalt sz ea)
    (hn : v.toNat % 2 ^ sizeBits sz = n % 2 ^ sizeBits sz) : Writes ea sz n s (writeResolved ea sz v s) :=
  writes_writeOp ea sz v n s _ hn hea.member (fun _ => rfl) (fun _ => rfl) rfl rfl

theorem writes_setFlags (h : Writes ea sz n s t) (f : Flags) : Writes ea sz n s (t.setFlags f) := h

theorem writeResolved_ccr : (writeResolved ea sz v s).sr.ccr = s.sr.ccr := by
  simp [writeResolved]

end

/-! MOVE (R211). -/

theorem exec_move (sz : Size) (src dst : EA) (s : State) :
    exec (move sz src dst) s = .next ((writeResolved dst sz (operand src sz s) (afterLocate src sz s)).setFlags
      (flagsLogic s.sr.ccr sz (operand src sz s))) := by
  have h : exec (move sz src dst) s = moveData sz src dst s := by cases sz <;> rfl
  rw [h]
  simp only [moveData, withSource, withOperand, readOp_afterLocate, afterLocate_sr]
  rfl

theorem move_length (sz : Size) (src dst : EA) :
    (move sz src dst).length = 1 + (src.words sz + dst.words sz) := by
  rw [← Nat.add_assoc]
  cases sz <;> rfl

theorem fits_of_wf_move {sz : Size} {src dst : EA} {band : HostBand}
    (h : (move sz src dst).wf band = true) : Fits .all sz src ∧ Fits .dataalt sz dst := by
  cases sz <;> exact fits_of_move h

/-- Settles O24: the source's resolution leaves the state the destination is resolved and written in. -/
theorem moveCopiesItsSource : Obligations.MoveCopiesItsSource := by
  intro sz src dst s hwf
  have h := Harmless.refl s
  refine ⟨_, _, afterSource_afterLocate src sz s, exec_move sz src dst s, ?_,
    writes_setFlags (writes_writeResolved (fits_of_wf_move hwf).2 rfl) _, logicFlags_flagsLogic sz _ _⟩
  refine ordinary_of_harmless h.afterLocate.afterLocate.writeOp.setFlags ?_ (move_length sz src dst) ?_
  · simp [writeResolved]
  · simp [writeResolved, afterLocate_pc, cellIndex_add]

/-! MOVEA, MOVEQ and LEA (R212, R213, R218). -/

theorem exec_movea (long : Bool) (src : EA) (an : RegNo) (s : State) :
    exec (movea long src an) s
      = .next ((afterLocate src (wl long) s).setA an (sext (wl long) (operand src (wl long) s))) := by
  have h : exec (movea long src an) s = moveAddress (wl long) src an s := by cases long <;> rfl
  rw [h]
  simp only [moveAddress, withSource, readOp_afterLocate]
  rfl

theorem movea_length (long : Bool) (src : EA) (an : RegNo) :
    (movea long src an).length = 1 + src.words (wl long) := by
  cases long <;> rfl

/-- Settles O25: each loads its register after its words have been passed; LEA's operand is an address, and
resolving it moves `pc` alone. -/
theorem wholeRegisterLoads : Obligations.WholeRegisterLoads := by
  intro s
  refine ⟨fun long src an => ?movea, fun dn data => ?moveq, fun ea an hwf => ?lea⟩
  case movea =>
    obtain ⟨-, flags, d, a, mem, -⟩ := afterSource_afterLocate src (wl long) s
    refine ⟨_, exec_movea long src an s, ordinary_setA (ordinary_afterLocate (movea_length long src an)) _ _,
      flags, d, mem, ?_, fun q hq => ?_⟩
    · rw [State.setA_areg_same, sext_toInt]
    · rw [State.setA_areg, if_neg hq, a]
  case moveq =>
    refine ⟨_, rfl, ordinary_of_harmless_one (Harmless.refl s).setD.setFlags rfl rfl rfl, fun _ => rfl,
      ⟨fun _ => rfl, rfl⟩, ?_, fun q hq => ?_, ?_⟩
    · exact (congrArg BitVec.toInt (s.setD_dreg_same dn _)).trans (BitVec.toInt_signExtend_of_le (by decide))
    · exact (s.setD_dreg dn q _).trans (if_neg hq)
    · rw [State.setFlags_dreg, State.setD_dreg_same]
      exact logicFlags_flagsLogic .l s.sr.ccr _
  case lea =>
    obtain ⟨a, ha, -, hafter⟩ := locate_control (s := s) (Fits.member (c := .control) hwf)
    obtain ⟨-, flags, d, -, mem, -⟩ := afterSource_afterLocate ea .l s
    refine ⟨a, (afterLocate ea .l s).setA an a, ha, ?_, ordinary_setA (ordinary_afterLocate rfl) _ _, flags, d, mem,
      fun q => ?_⟩
    · show Host.Outcome.next ((afterLocate ea .l s).setA an (locate ea .l s).address) = _
      rw [ha]
      rfl
    · rw [State.setA_areg, hafter, State.consume_areg]

/-! PEA, LINK and UNLK (R219, R222, R223). -/

/-- Settles O26: PEA and LINK push after their words have been passed, LINK from the state with the stack
pointer already moved; UNLK writes its register last. -/
theorem stackFramesArePushedAndRemoved : Obligations.StackFramesArePushedAndRemoved := by
  intro s
  refine ⟨fun ea hwf => ?pea, fun an d => ?link, fun an => ?unlk⟩
  case pea =>
    obtain ⟨a, ha, -, hafter⟩ := locate_control (s := s) (Fits.member (c := .control) hwf)
    refine ⟨a, (s.consume (ea.words .l)).push32 a, ha, ?_, ?_, ?_, pushesLong_push32 a (s.consume _)⟩
    · show Host.Outcome.next ((afterLocate ea .l s).push32 (locate ea .l s).address) = _
      rw [ha, hafter]
      rfl
    · exact ordinary_of_harmless (Harmless.refl s).consume.push32 (by simp) rfl (by simp)
    · simp [KeepsFlags]
  case link =>
    have hpushed : ((s.consume 1).setSp (s.sp - 4#32)).areg an = if an = 7 then s.areg 7 - 4#32 else s.areg an :=
      (s.consume 1).setSp_areg an _
    refine ⟨_, rfl, ?_, ?_, fun q => ?_, ?_, fun q => ?_⟩
    · exact ordinary_of_harmless (Harmless.refl s).consume.setSp.memWrite.setA.setSp (by simp [linkPush]) (k := 1) rfl
        (by simp [linkPush])
    · simp [KeepsFlags, linkPush]
    · simp [linkPush]
    · rw [← hpushed]
      exact stores_memWrite .l (s.sp - 4#32) _ ((s.consume 1).setSp (s.sp - 4#32))
    · rw [State.setSp_areg, State.setA_areg, linkPush, State.memWrite_areg, State.setSp_areg,
        signExtend_eq_ofInt]
      by_cases hq : q = spNo
      · rw [if_pos hq]
        exact (if_pos hq).symm
      · rw [if_neg hq, if_neg hq]
        exact (if_neg hq).symm
  case unlk =>
    refine ⟨_, rfl, ordinary_of_harmless_one (Harmless.refl s).setSp.drop32.setA rfl rfl rfl, rfl, fun _ => rfl,
      ⟨fun _ => rfl, rfl⟩, fun q => ?_⟩
    rw [State.setA_areg, State.drop32_areg, State.setSp_areg, State.top32, State.setSp_sp, State.setSp_memRead]
    by_cases hq : q = spNo
    · rw [if_pos hq, if_pos (c := q = 7) hq]
    · rw [if_neg hq, if_neg hq, if_neg (c := q = 7) hq]

end Sys2Proof.Proofs
end

section
/-! Instructions of registers alone (R220, R221, R225) and of one operand that is written (R224, R290, R309,
R310): O27, O28. -/

namespace Sys2Proof.Proofs

open Sys2Proof.Machine Sys2Proof.Claims Sys2Proof.Laws

/-! EXG, SWAP and EXT (R220, R221, R225). -/

section
variable (s : State) (x : XRegNo) (v : Long)

theorem setX_mem : (s.setX x v).mem = s.mem := by
  unfold State.setX
  split <;> rfl

theorem setX_events : (s.setX x v).events = s.events := by
  unfold State.setX
  split <;> rfl

theorem setX_sr : (s.setX x v).sr = s.sr := by
  unfold State.setX
  split <;> rfl

theorem setX_pc : (s.setX x v).pc = s.pc := by
  unfold State.setX
  split <;> rfl

theorem setX_draws : (s.setX x v).draws = s.draws := by
  unfold State.setX
  split <;> rfl

theorem setX_config : (s.setX x v).config = s.config := by
  unfold State.setX
  split <;> rfl

end

theorem exec_exchange {i : Instr} {x y : XRegNo}
    (h : (∃ rx ry : RegNo, i = .exgDD rx ry ∧ x = xData rx ∧ y = xData ry)
      ∨ (∃ rx ry : RegNo, i = .exgAA rx ry ∧ x = xAddr rx ∧ y = xAddr ry)
      ∨ (∃ rx ry : RegNo, i = .exgDA rx ry ∧ x = xData rx ∧ y = xAddr ry)) (s : State) :
    exec i s = exchange x y s ∧ i.length = 1 := by
  rcases h with ⟨rx, ry, rfl, rfl, rfl⟩ | ⟨rx, ry, rfl, rfl, rfl⟩ | ⟨rx, ry, rfl, rfl, rfl⟩ <;>
    exact ⟨rfl, rfl⟩

/-- Rotating by half the width exchanges the halves. -/
theorem rotateLeft_half_toNat (v : Long) :
    (v.rotateLeft 16).toNat = v.toNat % 65536 * 65536 + v.toNat / 65536 := by
  have hlow : v.toNat / 2 ^ 16 < 2 ^ 16 := by omega
  have hhigh : v.toNat * 2 ^ 16 % 2 ^ 32 = 2 ^ 16 * (v.toNat % 2 ^ 16) := by omega
  rw [BitVec.toNat_rotateLeft, Nat.shiftLeft_eq, Nat.shiftRight_eq_div_pow]
  change v.toNat * 2 ^ 16 % 2 ^ 32 ||| v.toNat / 2 ^ 16 = _
  rw [hhigh, ← Nat.two_pow_add_eq_or_of_lt hlow, Nat.mul_comm]
  rfl

/-- The upper bits of a register stay where its low bits are written (R23). -/
theorem merge_toNat_div (sz : Size) (old v : Long) :
    (merge sz old v).toNat / 2 ^ sizeBits sz = old.toNat / 2 ^ sizeBits sz := by
  rw [merge_toNat, Nat.add_comm, Nat.add_mul_div_right _ _ (Nat.two_pow_pos _),
    Nat.div_eq_of_lt (Nat.mod_lt _ (Nat.two_pow_pos _)), Nat.zero_add]

theorem merge_toNat_mod (sz : Size) (old v : Long) :
    (merge sz old v).toNat % 2 ^ sizeBits sz = v.toNat % 2 ^ sizeBits sz := by
  rw [merge_toNat, Nat.add_comm, Nat.add_mul_mod_self_right, Nat.mod_mod]

theorem sval_merge (sz : Size) (old v : Long) : sval sz (merge sz old v) = sval sz v := by
  have h : uval sz (merge sz old v) = uval sz v := merge_toNat_mod sz old v
  rw [sval, sval, h]

/-- A value sign-extended from the narrower size has the same value at the size (R225). -/
theorem sval_sext_narrower (sz : Size) (v : Long) :
    sval sz (sext (narrower sz) v) = sval (narrower sz) v := by
  have hint := sext_toInt (narrower sz) v
  have hlt := uval_lt (narrower sz) v
  rw [BitVec.toInt_eq_toNat_cond] at hint
  cases sz <;> simp only [narrower, sval, uval, sizeBits] at * <;> omega

/-- EXT writes the sign-extended narrower value into the low bits and sets the flags from it (R225). -/
theorem extends_extendSign {i : Instr} {sz : Size} {dn : RegNo} {s : State} (hlen : i.length = 1)
    (hexec : exec i s = extendSign sz dn s) :
    ∃ t, exec i s = .next t ∧ Ordinary i s t ∧ KeepsA s t ∧ KeepsMemory s t
      ∧ sval sz (t.dreg dn) = sval (narrower sz) (s.dreg dn)
      ∧ (t.dreg dn).toNat / 2 ^ sizeBits sz = (s.dreg dn).toNat / 2 ^ sizeBits sz
      ∧ (∀ q, q ≠ dn → t.dreg q = s.dreg q) ∧ LogicFlags sz (t.dreg dn).toNat s.sr.ccr t.sr.ccr := by
  have hdn : (s.mergeD sz dn (sext (narrower sz) (s.dreg dn))).dreg dn
      = merge sz (s.dreg dn) (sext (narrower sz) (s.dreg dn)) := (s.mergeD_dreg sz dn dn _).trans (if_pos rfl)
  refine ⟨_, hexec, ordinary_of_harmless_one (Harmless.refl s).mergeD.setFlags rfl hlen rfl, fun _ => rfl,
    ⟨fun _ => rfl, rfl⟩, ?_, ?_, fun q hq => ?_, ?_⟩
  · rw [State.setFlags_dreg, hdn, sval_merge, sval_sext_narrower]
  · rw [State.setFlags_dreg, hdn, merge_toNat_div]
  · rw [State.setFlags_dreg, State.mergeD_dreg, if_neg hq]
  · rw [State.setFlags_dreg, hdn]
    exact logicFlags_congr (merge_toNat_mod ..).symm (logicFlags_flagsLogic sz s.sr.ccr _)

/-- Settles O27: the second write of EXG reads the value its register had at the start; SWAP's flags are those
of the long it writes; EXT is `extends_extendSign` at each of its sizes. -/
theorem registersAreExchangedAndExtended : Obligations.RegistersAreExchangedAndExtended := by
  intro s
  refine ⟨fun i x y hi => ?exg, fun dn => ?swap, fun dn => ?extW, fun dn => ?extL⟩
  case exg =>
    obtain ⟨hexec, hlen⟩ := exec_exchange hi s
    refine ⟨_, hexec, ordinary_of_harmless_one (Harmless.refl s).setX.setX ?_ hlen ?_, ?_, ⟨fun _ => ?_, ?_⟩,
      fun q => ?_⟩
    · rw [setX_draws, setX_draws]
    · rw [setX_pc, setX_pc]
    · rw [KeepsFlags, setX_sr, setX_sr]
    · rw [setX_mem, setX_mem]
    · rw [setX_events, setX_events]
    · rw [setX_xreg, setX_xreg]
      by_cases hx : q = x
      · rw [if_pos hx, if_pos hx]
        by_cases hy : q = y
        · rw [if_pos hy, ← hx, ← hy]
        · rw [if_neg hy]
      · rw [if_neg hx, if_neg hx]
  case swap =>
    have hdn := s.setD_dreg_same dn ((s.dreg dn).rotateLeft 16)
    refine ⟨_, rfl, ordinary_of_harmless_one (Harmless.refl s).setD.setFlags rfl rfl rfl, fun _ => rfl,
      ⟨fun _ => rfl, rfl⟩, ?_, fun q hq => ?_, ?_⟩
    · rw [State.setFlags_dreg, hdn, rotateLeft_half_toNat]
    · rw [State.setFlags_dreg, State.setD_dreg, if_neg hq]
    · rw [State.setFlags_dreg, hdn]
      exact logicFlags_flagsLogic .l s.sr.ccr _
  case extW => exact extends_extendSign (sz := .w) rfl rfl
  case extL =>
    obtain ⟨t, hexec, hord, ha, hmem, hval, -, hd, hf⟩ :=
      extends_extendSign (i := .extL dn) (sz := .l) (s := s) rfl rfl
    exact ⟨t, hexec, hord, ha, hmem, hval, hd, hf⟩

/-! CLR, NOT, TAS and Scc (R224, R290, R309, R310). -/

theorem exec_clr (sz : Size) (ea : EA) (s : State) :
    exec (clr sz ea) s = .next ((writeResolved ea sz 0#32 s).setFlags (flagsLogic s.sr.ccr sz 0#32)) := by
  have h : exec (clr sz ea) s = clear sz ea s := by cases sz <;> rfl
  rw [h]
  simp only [clear, withOperand, afterLocate_sr]
  rfl

theorem exec_notI (sz : Size) (ea : EA) (s : State) :
    exec (notI sz ea) s = .next ((writeResolved ea sz (trunc sz (~~~ operand ea sz s)) s).setFlags
      (flagsLogic s.sr.ccr sz (trunc sz (~~~ operand ea sz s)))) := by
  have h : exec (notI sz ea) s = complement sz ea s := by cases sz <;> rfl
  rw [h]
  simp only [complement, withOperand, readOp_afterLocate, afterLocate_sr]
  rfl

theorem exec_tas (ea : EA) (s : State) :
    exec (.tas ea) s = .next ((writeResolved ea .b (operand ea .b s ||| 0x80#32) s).setFlags
      (flagsLogic s.sr.ccr .b (operand ea .b s))) := by
  show testAndSet ea s = _
  simp only [testAndSet, withOperand, readOp_afterLocate, afterLocate_sr]
  rfl

theorem exec_scc (k : Cond) (ea : EA) (s : State) :
    exec (scc k ea) s = .next (writeResolved ea .b (if k.holds s.sr.ccr then 0xFF#32 else 0#32) s) := by
  have h : exec (scc k ea) s = setOnCondition k ea s := by cases k <;> rfl
  rw [h]
  simp only [setOnCondition, withOperand, afterLocate_sr]
  rfl

theorem fits_of_wf_clr {sz : Size} {ea : EA} {band : HostBand} (h : (clr sz ea).wf band = true) :
    Fits .dataalt sz ea := by
  cases sz <;> exact h

theorem fits_of_wf_notI {sz : Size} {ea : EA} {band : HostBand} (h : (notI sz ea).wf band = true) :
    Fits .dataalt sz ea := by
  cases sz <;> exact h

theorem fits_of_wf_scc {k : Cond} {ea : EA} {band : HostBand} (h : (scc k ea).wf band = true) :
    Fits .dataalt .b ea := by
  cases k <;> exact h

theorem clr_length (sz : Size) (ea : EA) : (clr sz ea).length = 1 + ea.words sz := by
  cases sz <;> rfl

theorem notI_length (sz : Size) (ea : EA) : (notI sz ea).length = 1 + ea.words sz := by
  cases sz <;> rfl

theorem scc_length (k : Cond) (ea : EA) : (scc k ea).length = 1 + ea.words .b := by
  cases k <;> rfl

/-- The complement at a size as a number (R290). -/
theorem trunc_not_toNat (sz : Size) (v : Long) : (trunc sz (~~~ v)).toNat = 2 ^ sizeBits sz - 1 - uval sz v := by
  rw [trunc_toNat, BitVec.toNat_not, uval]
  cases sz <;> simp only [sizeBits] <;> omega

/-- Settles O28: one resolution, one write, and the flags of the result, for TAS of the value read. -/
theorem oneOperandInstructionsWriteTheirResult : Obligations.OneOperandInstructionsWriteTheirResult := by
  intro s
  refine ⟨fun sz ea hwf => ?clr, fun sz ea hwf => ?not, fun ea hwf => ?tas, fun k ea hwf => ?scc⟩
  case clr =>
    exact ⟨_, exec_clr sz ea s, ordinary_setFlags (ordinary_writeResolved (clr_length sz ea)) _,
      writes_setFlags (writes_writeResolved (fits_of_wf_clr hwf) rfl) _, logicFlags_flagsLogic sz s.sr.ccr 0#32⟩
  case not =>
    rw [← trunc_not_toNat]
    exact ⟨_, exec_notI sz ea s, ordinary_setFlags (ordinary_writeResolved (notI_length sz ea)) _,
      writes_setFlags (writes_writeResolved (fits_of_wf_notI hwf) rfl) _, logicFlags_flagsLogic sz s.sr.ccr _⟩
  case tas =>
    have hea : Fits .dataalt .b ea := hwf
    have hbyte : uval .b (operand ea .b s) = (operand ea .b s).toNat :=
      Nat.mod_eq_of_lt (operand_byte_lt ea s hea.wf)
    rw [hbyte]
    exact ⟨_, exec_tas ea s, ordinary_setFlags (ordinary_writeResolved rfl) _,
      writes_setFlags (writes_writeResolved hea (congrArg (· % 2 ^ 8) (BitVec.toNat_or ..))) _,
      logicFlags_flagsLogic .b s.sr.ccr _⟩
  case scc =>
    refine ⟨_, _, exec_scc k ea s, ordinary_writeResolved (scc_length k ea), writeResolved_ccr,
      writes_writeResolved (fits_of_wf_scc hwf) rfl, fun hk => ?_, fun hk => ?_⟩
    · rw [if_pos ((condTrue_iff k _).mp hk)]
      rfl
    · rw [if_neg (mt (condTrue_iff k _).mpr hk)]
      rfl

end Sys2Proof.Proofs
end

section
/-! Instructions that move several operands: MOVEM and MOVEP (R214 to R217): O29, O30, O31. A sequence of stores is
`storeAll` of a list of addresses and values, whichever way the instruction goes through memory. -/

namespace Sys2Proof.Proofs

open Sys2Proof.Machine Sys2Proof.Claims Sys2Proof.Laws

/-! Sequences of stores. -/

section
variable (sz : Size) (l : List (Long × Long)) (s : State)

theorem storeAll_cons (p : Long × Long) : storeAll sz (p :: l) s = storeAll sz l (s.memWrite sz p.1 p.2) := rfl

theorem harmless_storeAll : Harmless s (storeAll sz l s) := by
  induction l generalizing s with
  | nil => exact .refl s
  | cons p rest ih => exact ((Harmless.refl s).memWrite).trans (ih _)

/-- What no store changes, a sequence of stores does not change. -/
theorem storeAll_keeps {α : Type} {f : State → α} (hf : ∀ s a v, f (s.memWrite sz a v) = f s) :
    f (storeAll sz l s) = f s := by
  induction l generalizing s with
  | nil => rfl
  | cons p rest ih => rw [storeAll_cons, ih, hf]

@[simp] theorem storeAll_dreg (q : RegNo) : (storeAll sz l s).dreg q = s.dreg q :=
  storeAll_keeps sz l s (f := (State.dreg · q)) fun s a v => s.memWrite_dreg sz a v q

@[simp] theorem storeAll_areg (q : RegNo) : (storeAll sz l s).areg q = s.areg q :=
  storeAll_keeps sz l s (f := (State.areg · q)) fun s a v => s.memWrite_areg sz a v q

@[simp] theorem storeAll_sr : (storeAll sz l s).sr = s.sr :=
  storeAll_keeps sz l s fun s a v => s.memWrite_sr sz a v

@[simp] theorem storeAll_pc : (storeAll sz l s).pc = s.pc :=
  storeAll_keeps sz l s fun s a v => s.memWrite_pc sz a v

@[simp] theorem storeAll_draws : (storeAll sz l s).draws = s.draws :=
  storeAll_keeps sz l s fun s a v => s.memWrite_draws sz a v

/-- The stores leave every byte outside them. -/
theorem keepsOutside_storeAll : KeepsOutside sz l s (storeAll sz l s) := by
  induction l generalizing s with
  | nil => exact fun _ _ => rfl
  | cons p rest ih =>
    intro x hx
    rw [List.forall_mem_cons] at hx
    refine (ih (s.memWrite sz p.1 p.2) x ?_).trans (s.memWrite_get_outside sz p.1 p.2 x hx.1)
    rw [State.memWrite_config]
    exact hx.2

/-- Stores do not read `pc`: they may be made after the instruction's words have been passed. -/
theorem storeAll_consume (n : Nat) : storeAll sz l (s.consume n) = (storeAll sz l s).consume n := by
  induction l generalizing s with
  | nil => rfl
  | cons p rest ih =>
    have h : (s.consume n).memWrite sz p.1 p.2 = (s.memWrite sz p.1 p.2).consume n := by
      rw [State.memWrite, State.memWrite, apply_ite (State.consume n)]
      rfl
    rw [storeAll_cons, storeAll_cons, h, ih]

end

theorem consume_consume (s : State) (m n : Nat) : (s.consume m).consume n = s.consume (m + n) := by
  rw [State.consume, State.consume, State.consume, cellIndex_add]

theorem trunc_getLsbD (sz : Size) (v : Long) (k : Nat) :
    (trunc sz v).getLsbD k = (decide (k < sizeBits sz) && v.getLsbD k) := by
  rw [BitVec.getLsbD, trunc_toNat, Nat.testBit_mod_two_pow, BitVec.getLsbD]

theorem bytesOf_trunc (sz : Size) (v : Long) : bytesOf sz (trunc sz v) = bytesOf sz v := by
  have hbyte : ∀ k, k + 8 ≤ sizeBits sz → (trunc sz v).extractLsb' k 8 = v.extractLsb' k 8 := by
    intro k hk
    apply BitVec.eq_of_getLsbD_eq
    intro j hj
    have hin : k + j < sizeBits sz := by omega
    simp only [BitVec.getLsbD_extractLsb', trunc_getLsbD, hin, decide_true, Bool.true_and]
  cases sz with
  | b => rw [bytesOf, bytesOf, hbyte 0 (by decide)]
  | w => rw [bytesOf, bytesOf, hbyte 0 (by decide), hbyte 8 (by decide)]
  | l => rw [trunc_l_eq]

/-- A store depends on the value's low bits alone (R69 to R72). -/
theorem memWrite_trunc (s : State) (sz : Size) (a v : Long) : s.memWrite sz a (trunc sz v) = s.memWrite sz a v := by
  have hevents : screenEvents s.config sz a (trunc sz v) = screenEvents s.config sz a v := by
    rw [screenEvents, screenEvents, trunc_trunc]
  rw [State.memWrite, State.memWrite, bytesOf_trunc, hevents]

/-! Consecutive addresses. -/

/-- `k` operands of a size past an address. -/
def ahead (sz : Size) (a : Long) (k : Nat) : Long := a + BitVec.ofNat 32 (sizeBytes sz * k)

/-- `k` operands of a size before an address. -/
def behind (sz : Size) (a : Long) (k : Nat) : Long := a - BitVec.ofNat 32 (sizeBytes sz * k)

theorem ahead_zero (sz : Size) (a : Long) : ahead sz a 0 = a := BitVec.add_zero a

theorem behind_zero (sz : Size) (a : Long) : behind sz a 0 = a := BitVec.sub_zero a

theorem ahead_step (sz : Size) (a : Long) (k : Nat) : ahead sz (a + sizeStep sz) k = ahead sz a (k + 1) := by
  rw [ahead, ahead, sizeStep, BitVec.add_assoc, ← BitVec.ofNat_add, Nat.mul_succ, Nat.add_comm]

theorem behind_step (sz : Size) (a : Long) (k : Nat) : behind sz (a - sizeStep sz) k = behind sz a (k + 1) := by
  rw [behind, behind, sizeStep, BitVec.sub_sub, ← BitVec.ofNat_add, Nat.mul_succ, Nat.add_comm]

/-! MOVEM to memory (R214). -/

section
variable (sz : Size) (s₀ : State) (l : List XRegNo) (a : Long) (s : State)

theorem storeUp_eq_storeAll :
    storeUp sz s₀ l a s = storeAll sz (l.zipIdx.map fun p => (ahead sz a p.2, s₀.xreg p.1)) s := by
  induction l generalizing a s with
  | nil => rfl
  | cons i rest ih =>
    rw [storeUp, ih, memWrite_trunc, List.zipIdx_cons', List.map_cons, storeAll_cons, ahead_zero, List.map_map]
    simp only [Function.comp_def, Prod.map, id, ahead_step]

theorem storeDown_eq_storeAll :
    storeDown sz s₀ l a s = (behind sz a l.length,
      storeAll sz (l.zipIdx.map fun p => (behind sz a (p.2 + 1), s₀.xreg (mirror p.1))) s) := by
  induction l generalizing a s with
  | nil => exact congrArg (·, s) (behind_zero sz a).symm
  | cons i rest ih =>
    have hfirst : behind sz a 1 = a - sizeStep sz := by rw [← behind_step, behind_zero]
    rw [storeDown, ih, memWrite_trunc, List.zipIdx_cons', List.map_cons, storeAll_cons, Nat.zero_add, hfirst,
      List.map_map]
    simp only [Function.comp_def, Prod.map, id, behind_step, List.length_cons]

end

section
variable {ea : EA} {sz : Size} {s : State}

/-- A control operand of any size is an address; resolving it only consumes its words. -/
theorem locate_of_control (h : Category.member .control ea = true) :
    ∃ a, locate ea sz s = .mem a ∧ afterLocate ea sz s = s.consume (ea.words sz) := by
  cases ea <;> simp [Category.member, locate, afterLocate, EA.words, State.consume] at *

theorem exec_movemStore_preDec (long : Bool) (mask : Word) (r : RegNo) (s : State) :
    exec (movemStoreI long mask (.preDec r)) s
      = .next (((storeAll (wl long) (descending (wl long) mask (s.areg r) s) s).consume 1).setA r
          (s.areg r - BitVec.ofNat 32 (sizeBytes (wl long) * countSelected mask))) := by
  have h : exec (movemStoreI long mask (.preDec r)) s = movemStore (wl long) mask (.preDec r) s := by
    cases long <;> rfl
  rw [h, movemStore, storeDown_eq_storeAll, storeAll_consume]
  rfl

theorem exec_movemStore_control {a : Long} (long : Bool) (mask : Word) (hea : Category.member .control ea = true)
    (ha : locate ea (wl long) (s.consume 1) = .mem a) :
    exec (movemStoreI long mask ea) s
      = .next ((storeAll (wl long) (ascending (wl long) mask a s) s).consume (1 + ea.words (wl long))) := by
  have h : exec (movemStoreI long mask ea) s = movemStore (wl long) mask ea s := by
    cases long <;> rfl
  obtain ⟨_, -, hafter⟩ := locate_of_control (sz := wl long) (s := s.consume 1) hea
  have hm : movemStore (wl long) mask ea s = .next (storeUp (wl long) s (maskBits mask)
      (locate ea (wl long) (s.consume 1)).address (afterLocate ea (wl long) (s.consume 1))) := by
    cases ea with
    | dn | an | postInc | preDec | imm => cases hea
    | _ => rfl
  rw [h, hm, ha, hafter, storeUp_eq_storeAll, storeAll_consume, storeAll_consume,
    consume_consume]
  rfl

end

theorem movemStoreI_length (long : Bool) (mask : Word) (ea : EA) :
    (movemStoreI long mask ea).length = 1 + (1 + ea.words (wl long)) := by
  rw [← Nat.add_assoc]
  cases long <;> rfl

theorem control_of_wf_movemStoreI {long : Bool} {mask : Word} {ea : EA} {band : HostBand}
    (h : (movemStoreI long mask ea).wf band = true) (hne : ∀ r, ea ≠ .preDec r) :
    Category.member .control ea = true := by
  have hfits : Fits .ctlaltPredec (wl long) ea := by cases long <;> exact h
  have hmem := hfits.member
  cases ea with
  | preDec r => exact absurd rfl (hne r)
  | pcDisp | pcIndex => cases hmem
  | _ => exact hmem

/-- Settles O29: both directions are `storeAll` of their list; the words are passed before the stores, and the
register of pre-decrement is written after them. -/
theorem movemStoresTheSelectedRegisters : Obligations.MovemStoresTheSelectedRegisters := by
  intro long mask s
  refine ⟨fun r => ?preDec, fun ea hwf hne => ?control⟩
  case preDec =>
    refine ⟨_, exec_movemStore_preDec long mask r s, ?_, ?_, ?_, fun q => ?_, rfl, rfl,
      keepsOutside_storeAll _ _ s⟩
    · exact ordinary_of_harmless (harmless_storeAll ..).consume.setA (by simp) (movemStoreI_length ..)
        (by simp [EA.words])
    · simp [KeepsFlags]
    · simp [KeepsD]
    · rw [State.setA_areg, State.consume_areg, storeAll_areg]
  case control =>
    have hea := control_of_wf_movemStoreI hwf hne
    obtain ⟨a, ha, -⟩ := locate_of_control (sz := wl long) (s := s.consume 1) hea
    refine ⟨a, _, ha, exec_movemStore_control long mask hea ha, ?_, ?_, ?_, ?_, rfl, rfl,
      keepsOutside_storeAll _ _ s⟩
    · exact ordinary_of_harmless (harmless_storeAll ..).consume (by simp) (movemStoreI_length ..) (by simp)
    · simp [KeepsFlags]
    · simp [KeepsD]
    · simp [KeepsA]

/-! MOVEM from memory (R215). -/

/-- The place of a register in an ascending list: how many registers of the list come before it. -/
def placeIn (l : List XRegNo) (q : XRegNo) : Nat := (l.filter fun k => decide (k < q)).length

section
variable {i q : XRegNo} {rest l : List XRegNo}

/-- The first register of an ascending list. -/
theorem placeIn_head (h : (i :: rest).Pairwise (· < ·)) : placeIn (i :: rest) i = 0 := by
  obtain ⟨hi, -⟩ := List.pairwise_cons.mp h
  refine List.length_eq_zero_iff.mpr (List.filter_eq_nil_iff.mpr fun k hk => ?_)
  rcases List.mem_cons.mp hk with rfl | hk
  · simp
  · simpa using (hi k hk).le

theorem placeIn_tail (h : (i :: rest).Pairwise (· < ·)) (hq : q ∈ rest) :
    placeIn (i :: rest) q = placeIn rest q + 1 := by
  obtain ⟨hi, -⟩ := List.pairwise_cons.mp h
  rw [placeIn, List.filter_cons_of_pos (p := fun k => decide (k < q)) (decide_eq_true (hi q hq)), List.length_cons,
    placeIn]

theorem loadUp_xreg (sz : Size) (l : List XRegNo) (hl : l.Pairwise (· < ·)) (a : Long) (s : State) (q : XRegNo) :
    (loadUp sz l a s).2.xreg q =
      if q ∈ l then sext sz (s.memRead sz (ahead sz a (placeIn l q))) else s.xreg q := by
  induction l generalizing a s with
  | nil => rfl
  | cons i rest ih =>
    have hread : ∀ v b, (s.setX i v).memRead sz b = s.memRead sz b := fun v b =>
      State.memRead_congr (setX_mem s i v) (setX_config s i v) sz b
    obtain ⟨hi, hrest⟩ := List.pairwise_cons.mp hl
    rw [loadUp, ih hrest, hread, setX_xreg]
    by_cases hq : q ∈ rest
    · rw [if_pos hq, if_pos (List.mem_cons_of_mem i hq), placeIn_tail hl hq, ahead_step]
    · rw [if_neg hq]
      by_cases hqi : q = i
      · subst hqi
        rw [if_pos rfl, if_pos List.mem_cons_self, placeIn_head hl, ahead_zero]
      · rw [if_neg hqi, if_neg (by simp [hq, hqi])]

theorem loadUp_fst (sz : Size) (l : List XRegNo) (a : Long) (s : State) :
    (loadUp sz l a s).1 = ahead sz a l.length := by
  induction l generalizing a s with
  | nil => exact (ahead_zero sz a).symm
  | cons i rest ih => rw [loadUp, ih, ahead_step, List.length_cons]

end

section
variable (sz : Size) (l : List XRegNo) (a : Long) (s : State)

/-- What no register write changes, a sequence of loads does not change. -/
theorem loadUp_keeps {α : Type} {f : State → α} (hf : ∀ s x v, f (s.setX x v) = f s) :
    f (loadUp sz l a s).2 = f s := by
  induction l generalizing a s with
  | nil => rfl
  | cons i rest ih => rw [loadUp, ih, hf]

@[simp] theorem loadUp_sr : (loadUp sz l a s).2.sr = s.sr := loadUp_keeps sz l a s setX_sr

@[simp] theorem loadUp_pc : (loadUp sz l a s).2.pc = s.pc := loadUp_keeps sz l a s setX_pc

@[simp] theorem loadUp_draws : (loadUp sz l a s).2.draws = s.draws := loadUp_keeps sz l a s setX_draws

@[simp] theorem loadUp_mem : (loadUp sz l a s).2.mem = s.mem := loadUp_keeps sz l a s setX_mem

@[simp] theorem loadUp_events : (loadUp sz l a s).2.events = s.events := loadUp_keeps sz l a s setX_events

end

theorem mem_selected (mask : Word) (q : XRegNo) : q ∈ selected mask ↔ mask.getLsbD q.val = true := by
  rw [selected, List.mem_filter]
  exact and_iff_right (List.mem_finRange q)

theorem selected_pairwise (mask : Word) : (selected mask).Pairwise (· < ·) :=
  (List.pairwise_lt_finRange 16).filter _

/-- What MOVEM loads into each register (R215). -/
theorem loadUp_selected_xreg (sz : Size) (mask : Word) (a : Long) (s : State) (q : XRegNo) :
    (loadUp sz (selected mask) a s).2.xreg q =
      if mask.getLsbD q.val = true then
        BitVec.ofInt 32 (sval sz (s.memRead sz (a + BitVec.ofNat 32 (sizeBytes sz * countBelow mask q))))
      else s.xreg q := by
  simp only [loadUp_xreg sz _ (selected_pairwise mask), mem_selected, sext_eq_ofInt]
  rfl

/-- A write of an address register by its unified number (R23). -/
theorem setA_eq_setX (s : State) (r : RegNo) (v : Long) : s.setA r v = s.setX (xAddr r) v := by
  have h : ¬ (xAddr r).val < 8 := Nat.not_lt.2 (Nat.le_add_left 8 r.val)
  rw [State.setX, dif_neg h]
  rfl

section
variable {ea : EA} {s : State}

theorem movemLoadI_length (long : Bool) (mask : Word) (ea : EA) :
    (movemLoadI long mask ea).length = 1 + (1 + ea.words (wl long)) := by
  rw [← Nat.add_assoc]
  cases long <;> rfl

theorem control_of_wf_movemLoadI {long : Bool} {mask : Word} {band : HostBand}
    (h : (movemLoadI long mask ea).wf band = true) (hne : ∀ r, ea ≠ .postInc r) :
    Category.member .control ea = true := by
  have hfits : Fits .controlPostinc (wl long) ea := by cases long <;> exact h
  have hmem := hfits.member
  cases ea with
  | postInc r => exact absurd rfl (hne r)
  | _ => exact hmem

theorem exec_movemLoad_postInc (long : Bool) (mask : Word) (r : RegNo) (s : State) :
    exec (movemLoadI long mask (.postInc r)) s
      = .next ((loadUp (wl long) (selected mask) (s.areg r) (s.consume 1)).2.setA r
          (s.areg r + BitVec.ofNat 32 (sizeBytes (wl long) * countSelected mask))) := by
  have h : exec (movemLoadI long mask (.postInc r)) s = movemLoad (wl long) mask (.postInc r) s := by
    cases long <;> rfl
  rw [h, movemLoad, loadUp_fst]
  rfl

theorem exec_movemLoad_control {a : Long} (long : Bool) (mask : Word) (hea : Category.member .control ea = true)
    (ha : locate ea (wl long) (s.consume 1) = .mem a) :
    exec (movemLoadI long mask ea) s
      = .next (loadUp (wl long) (selected mask) a (s.consume (1 + ea.words (wl long)))).2 := by
  have h : exec (movemLoadI long mask ea) s = movemLoad (wl long) mask ea s := by
    cases long <;> rfl
  obtain ⟨_, -, hafter⟩ := locate_of_control (sz := wl long) (s := s.consume 1) hea
  have hm : movemLoad (wl long) mask ea s = .next (loadUp (wl long) (maskBits mask)
      (locate ea (wl long) (s.consume 1)).address (afterLocate ea (wl long) (s.consume 1))).2 := by
    cases ea with
    | dn | an | postInc | preDec | imm => cases hea
    | _ => rfl
  rw [h, hm, ha, hafter, consume_consume]
  rfl

end

/-- Settles O30: the loads by `loadUp_selected_xreg`; the register of post-increment is written after them. -/
theorem movemLoadsTheSelectedRegisters : Obligations.MovemLoadsTheSelectedRegisters := by
  intro long mask s
  refine ⟨fun r => ?postInc, fun ea hwf hne => ?control⟩
  case postInc =>
    refine ⟨_, exec_movemLoad_postInc long mask r s, ?_, ?_, ?_, State.setA_areg_same .., fun q hq => ?_⟩
    · exact ordinary_of_harmless (Harmless.refl s).consume.loadUp.setA (by simp) (movemLoadI_length ..)
        (by simp [EA.words])
    · simp [KeepsFlags]
    · simp [KeepsMemory]
    · rw [setA_eq_setX, setX_xreg, if_neg hq, loadUp_selected_xreg]
      rfl
  case control =>
    have hea := control_of_wf_movemLoadI hwf hne
    obtain ⟨a, ha, -⟩ := locate_of_control (sz := wl long) (s := s.consume 1) hea
    refine ⟨a, _, ha, exec_movemLoad_control long mask hea ha, ?_, ?_, ?_, loadUp_selected_xreg _ mask a _⟩
    · exact ordinary_of_harmless (Harmless.refl s).consume.loadUp (by simp) (movemLoadI_length ..) (by simp)
    · simp [KeepsFlags]
    · simp [KeepsMemory]

/-! MOVEP (R217). -/

/-- The addresses and values of MOVEP to memory: every other byte, the most significant first. -/
def alternate (sz : Size) (a v : Long) : List (Long × Long) :=
  (List.range (sizeBytes sz)).map fun k =>
    (a + BitVec.ofNat 32 (2 * k), BitVec.ofNat 32 (v.toNat / 256 ^ (sizeBytes sz - 1 - k) % 256))

theorem storeAlternate_eq_storeAll (bytes : List Byte) (a : Long) (s : State) :
    storeAlternate bytes a s
      = storeAll .b (bytes.zipIdx.map fun p => (a + BitVec.ofNat 32 (2 * p.2), p.1.setWidth 32)) s := by
  induction bytes generalizing a s with
  | nil => rfl
  | cons b rest ih =>
    have hstep : ∀ k, a + 2#32 + BitVec.ofNat 32 (2 * k) = a + BitVec.ofNat 32 (2 * (k + 1)) := fun k => by
      rw [BitVec.add_assoc, ← BitVec.ofNat_add, Nat.mul_succ, Nat.add_comm]
    rw [storeAlternate, ih, List.zipIdx_cons', List.map_cons, storeAll_cons, Nat.mul_zero, BitVec.add_zero,
      List.map_map]
    simp only [Function.comp_def, Prod.map, id, hstep]

/-- A byte of a long as a number. -/
theorem extractLsb'_byte (v : Long) (k : Nat) :
    (v.extractLsb' (8 * k) 8).setWidth 32 = BitVec.ofNat 32 (v.toNat / 256 ^ k % 256) := by
  apply BitVec.eq_of_toNat_eq
  rw [BitVec.toNat_setWidth, BitVec.extractLsb'_toNat, Nat.shiftRight_eq_div_pow, Nat.pow_mul, BitVec.toNat_ofNat]

theorem storeAlternate_bytesOf (sz : Size) (a v : Long) (s : State) :
    storeAlternate (bytesOf sz v) a s = storeAll .b (alternate sz a v) s := by
  have hbytes : ∀ f : Byte × Nat → Long × Long, (bytesOf sz v).zipIdx.map f
      = (List.range (sizeBytes sz)).map fun k => f (v.extractLsb' (8 * (sizeBytes sz - 1 - k)) 8, k) := by
    cases sz <;> exact fun _ => rfl
  rw [storeAlternate_eq_storeAll, hbytes, alternate]
  simp only [extractLsb'_byte]

/-- An `or` of a long with one below its lowest bit is a sum. -/
theorem toNat_or_of_dvd {k : Nat} {x y : Long} (hx : 2 ^ k ∣ x.toNat) (hy : y.toNat < 2 ^ k) :
    (x ||| y).toNat = x.toNat + y.toNat := by
  obtain ⟨m, hm⟩ := hx
  rw [BitVec.toNat_or, hm, Nat.two_pow_add_eq_or_of_lt hy]

/-- The bytes MOVEP loads, as one number. -/
theorem loadAlternate_toNat (long : Bool) (a : Long) (s : State) :
    (loadAlternate (wl long) a s).toNat = if long = true then
        (s.memRead .b a).toNat * 2 ^ 24 + (s.memRead .b (a + 2#32)).toNat * 2 ^ 16
          + (s.memRead .b (a + 4#32)).toNat * 2 ^ 8 + (s.memRead .b (a + 6#32)).toNat
      else (s.memRead .b a).toNat * 2 ^ 8 + (s.memRead .b (a + 2#32)).toNat := by
  have hbyte : ∀ b, (s.memRead .b b).toNat < 256 := fun b => operand_byte_lt (.absL b) s rfl
  have hshift : ∀ n b, n ≤ 24 → (s.memRead .b b <<< n).toNat = (s.memRead .b b).toNat * 2 ^ n := by
    intro n b hn
    rw [BitVec.toNat_shiftLeft, Nat.shiftLeft_eq]
    apply Nat.mod_eq_of_lt
    calc (s.memRead .b b).toNat * 2 ^ n < 256 * 2 ^ 24 :=
          Nat.mul_lt_mul_of_lt_of_le (hbyte b) (Nat.pow_le_pow_right (by decide) hn) (by decide)
      _ = 2 ^ 32 := rfl
  cases long with
  | false =>
    have first := hshift 8 a (by decide)
    show (s.memRead .b a <<< 8 ||| s.memRead .b (a + 2#32)).toNat = _
    rw [toNat_or_of_dvd (k := 8) (by omega) (hbyte _), first]
    rfl
  | true =>
    have first := hshift 24 a (by decide)
    have second := hshift 16 (a + 2#32) (by decide)
    have third := hshift 8 (a + 4#32) (by decide)
    have hsecond := hbyte (a + 2#32)
    have hthird := hbyte (a + 4#32)
    have two : (s.memRead .b a <<< 24 ||| s.memRead .b (a + 2#32) <<< 16).toNat
        = (s.memRead .b a).toNat * 2 ^ 24 + (s.memRead .b (a + 2#32)).toNat * 2 ^ 16 := by
      rw [toNat_or_of_dvd (k := 24) (by omega) (by omega), first, second]
    have three : (s.memRead .b a <<< 24 ||| s.memRead .b (a + 2#32) <<< 16
          ||| s.memRead .b (a + 4#32) <<< 8).toNat
        = (s.memRead .b a).toNat * 2 ^ 24 + (s.memRead .b (a + 2#32)).toNat * 2 ^ 16
          + (s.memRead .b (a + 4#32)).toNat * 2 ^ 8 := by
      rw [toNat_or_of_dvd (k := 16) (by omega) (by omega), two, third]
    show (_ ||| s.memRead .b (a + 6#32)).toNat = _
    rw [toNat_or_of_dvd (k := 8) (by omega) (hbyte _), three]
    rfl

/-- Settles O31: the bytes of the register are those of its number in base 256, and the loaded bytes are put
together the same way. -/
theorem movepMovesAlternateBytes : Obligations.MovepMovesAlternateBytes := by
  rintro long dn an d s a rfl
  constructor
  · have hexec : exec (movepLoadI long dn an d) s = movepLoad (wl long) dn an d s := by cases long <;> rfl
    have hlen : (movepLoadI long dn an d).length = 1 + 1 := by cases long <;> rfl
    refine ⟨_, hexec, ordinary_of_harmless (Harmless.refl s).consume.mergeD rfl hlen rfl, rfl, fun _ => rfl,
      ⟨fun _ => rfl, rfl⟩, ?_, fun q hq => ?_⟩
    · rw [State.mergeD_dreg, if_pos rfl, merge_toNat, loadAlternate_toNat]
      rfl
    · rw [State.mergeD_dreg, if_neg hq]
      rfl
  · have hexec : exec (movepStoreI long dn an d) s = movepStore (wl long) dn an d s := by cases long <;> rfl
    have hlen : (movepStoreI long dn an d).length = 1 + 1 := by cases long <;> rfl
    rw [hexec, movepStore, storeAlternate_bytesOf, storeAll_consume]
    refine ⟨_, _, rfl, ordinary_of_harmless (harmless_storeAll ..).consume (by simp) hlen (by simp), ?_, ?_, ?_,
      rfl, rfl, rfl, keepsOutside_storeAll _ _ s⟩
    · simp [KeepsFlags]
    · simp [KeepsD]
    · simp [KeepsA]

end Sys2Proof.Proofs
end

section
/-! Integer arithmetic (R241 to R249): results and flags as numbers, and the ways an instruction completes: through
a resolved operand, into a data register, into an address register, with flags alone. ADD, SUB and their immediate,
quick and address forms: O32, O33, O34. -/

namespace Sys2Proof.Proofs

open Sys2Proof.Machine Sys2Proof.Claims Sys2Proof.Laws

/-! Sums and differences as numbers (R191, R192, R194). -/

section
variable (sz : Size) (s d : Long) (x : Bool)

theorem xValue_toNat : (xValue x).toNat = x.toNat := by cases x <;> rfl

theorem extendedResult_add_toNat :
    (extendedResult .add sz s d x).toNat = sumOf sz s d x % 2 ^ sizeBits sz := by
  rw [extendedResult, trunc_toNat, BitVec.toNat_add, BitVec.toNat_add, xValue_toNat, sumOf, uval, uval]
  cases sz <;> simp only [sizeBits] <;> omega

theorem extendedResult_sub_toNat :
    (extendedResult .sub sz s d x).toNat = differenceOf sz s d x % 2 ^ sizeBits sz := by
  have hx := Bool.toNat_le x
  rw [extendedResult, trunc_toNat, BitVec.toNat_sub, BitVec.toNat_sub, xValue_toNat, differenceOf, uval, uval]
  cases sz <;> simp only [sizeBits] <;> omega

theorem aluResult_add_mod :
    (aluResult .add sz s d).toNat % 2 ^ sizeBits sz = sumOf sz s d false % 2 ^ sizeBits sz := by
  have h := extendedResult_add_toNat sz s d false
  rw [extendedResult, xValue, if_neg Bool.false_ne_true, BitVec.add_zero] at h
  rw [aluResult, h, Nat.mod_mod]

theorem aluResult_sub_mod :
    (aluResult .sub sz s d).toNat % 2 ^ sizeBits sz = differenceOf sz s d false % 2 ^ sizeBits sz := by
  have h := extendedResult_sub_toNat sz s d false
  rw [extendedResult, xValue, if_neg Bool.false_ne_true, BitVec.sub_zero] at h
  rw [aluResult, h, Nat.mod_mod]

end

/-! Flags depend on the size's bits of the operands alone. -/

section
variable {sz : Size} {s s' d d' : Long} {old f : Flags} (hs : uval sz s' = uval sz s) (hd : uval sz d' = uval sz d)
include hs hd

theorem sumOf_congr (x : Bool) : sumOf sz s' d' x = sumOf sz s d x := by rw [sumOf, sumOf, hs, hd]

theorem differenceOf_congr (x : Bool) : differenceOf sz s' d' x = differenceOf sz s d x := by
  rw [differenceOf, differenceOf, hs, hd]

theorem addFlags_congr (h : AddFlags sz s' d' f) : AddFlags sz s d f := by
  simpa only [AddFlags, CarryFlags, sumOf, sval, hs, hd] using h

theorem subFlags_congr (h : SubFlags sz s' d' f) : SubFlags sz s d f := by
  simpa only [SubFlags, BorrowFlags, differenceOf, sval, hs, hd] using h

theorem compareFlags_congr (h : CompareFlags sz s' d' old f) : CompareFlags sz s d old f := by
  simpa only [CompareFlags, BorrowFlags, differenceOf, sval, hs, hd] using h

end

/-! The flags of ADDX, SUBX and NEGX (R194): those of the addition and the subtraction, but for the sticky `Z`. -/

section
variable (old : Flags) (sz : Size) (s d r : Long) (x : Bool)

theorem msbOf_eq_false_of_zero {r : Long} (h : r = 0#32) : msbOf sz r = false := by
  subst h
  cases sz <;> rfl

/-- A result with its sign bit set is not zero. -/
theorem not_zero_and_msbOf : (!decide (r = 0#32) && msbOf sz r) = msbOf sz r := by
  by_cases h : r = 0#32
  · rw [msbOf_eq_false_of_zero sz h, Bool.and_false]
  · rw [decide_eq_false h, Bool.not_false, Bool.true_and]

theorem carryFlags_flagsAddX (hr : r.toNat = sumOf sz s d x % 2 ^ sizeBits sz) :
    CarryFlags sz s d x (flagsAddX old sz s d r) := by
  have h := carryFlags_flagsAdd sz s d x r hr
  simp only [CarryFlags, flagsAdd, msbOf_trunc, not_zero_and_msbOf] at h
  obtain ⟨hc, -, hv, hn⟩ := h
  exact ⟨hc, rfl, hv, hn⟩

theorem borrowFlags_flagsSubX (hr : r.toNat = differenceOf sz s d x % 2 ^ sizeBits sz) :
    BorrowFlags sz s d x (flagsSubX old sz s d r) := by
  have h := borrowFlags_flagsSub sz s d x r hr
  simp only [BorrowFlags, flagsSub, msbOf_trunc, not_zero_and_msbOf] at h
  exact h

/-- `Z` is only ever cleared. -/
theorem sticky_zero_iff {z : Bool} {n : Nat} (hr : r.toNat = n % 2 ^ sizeBits sz) :
    (z && decide (r = 0#32)) = true ↔ z = true ∧ ZeroAt sz n := by
  rw [Bool.and_eq_true, decide_eq_true_eq, zero_iff_mod r _ _ hr, ZeroAt]

end

/-! Operands. -/

section
variable {c : Category} {ea : EA} {sz : Size}

theorem Fits.of_member (h : Fits c sz ea) {c' : Category} (hm : c'.member ea = true) : Fits c' sz ea := by
  simp only [Fits, Category.admits, Bool.and_eq_true] at h ⊢
  exact ⟨⟨hm, h.1.2⟩, h.2⟩

theorem Fits.dataalt_of_memalt (h : Fits .memalt sz ea) : Fits .dataalt sz ea := by
  have hm := h.member
  refine h.of_member ?_
  cases ea with
  | dn | an | pcDisp | pcIndex | imm => cases hm
  | _ => rfl

theorem Fits.dataalt_of_alt (h : Fits .alt sz ea) (hn : ea.isAn = false) : Fits .dataalt sz ea := by
  have hm := h.member
  refine h.of_member ?_
  cases ea with
  | an => cases hn
  | pcDisp | pcIndex | imm => cases hm
  | _ => rfl

end

/-- An immediate of size B is the low byte of its long (R107). -/
theorem setWidth_byte (v : Long) : (v.setWidth 8).setWidth 32 = trunc .b v := by
  apply BitVec.eq_of_toNat_eq
  rw [trunc_toNat, BitVec.toNat_setWidth, BitVec.toNat_setWidth]
  exact Nat.mod_eq_of_lt ((Nat.mod_lt _ (by decide)).trans (by decide))

theorem setWidth_word (v : Long) : (v.setWidth 16).setWidth 32 = trunc .w v := by
  apply BitVec.eq_of_toNat_eq
  rw [trunc_toNat, BitVec.toNat_setWidth, BitVec.toNat_setWidth]
  exact Nat.mod_eq_of_lt ((Nat.mod_lt _ (by decide)).trans (by decide))

theorem quickValue_eq (q : BitVec 3) : quickValue q = BitVec.ofNat 32 (quickNat q) := by
  rw [quickValue, quickNat, apply_ite (BitVec.ofNat 32), BitVec.ofNat_toNat]

/-! The ways an instruction completes. -/

section
variable {i : Instr} {ea : EA} {sz : Size} {v : Long} {n : Nat} {r : RegNo} {f : Flags} {s u : State}
  {P : Flags → Prop}

theorem ordinary_afterImmediate {k : Nat} (hlen : i.length = 1 + (k + ea.words sz)) :
    Ordinary i s (afterLocate ea sz (s.consume k)) :=
  ordinary_of_harmless (Harmless.refl s).consume.afterLocate (afterLocate_draws ..) hlen
    (by rw [afterLocate_pc, State.consume_pc, cellIndex_add])

/-- A value written through a resolved operand, and flags. -/
theorem completes_writeResolved (hexec : exec i s = .next ((writeResolved ea sz v u).setFlags f))
    (hord : Ordinary i s (afterLocate ea sz u)) (hea : Fits .dataalt sz ea)
    (hn : v.toNat % 2 ^ sizeBits sz = n % 2 ^ sizeBits sz) (hf : P f) :
    ∃ t, exec i s = .next t ∧ Ordinary i s t ∧ Writes ea sz n u t ∧ P t.sr.ccr :=
  ⟨_, hexec, ordinary_setFlags (ordinary_writeOp hord _ _) _, writes_setFlags (writes_writeResolved hea hn) _, hf⟩

theorem writesD_mergeD (hn : v.toNat % 2 ^ sizeBits sz = n % 2 ^ sizeBits sz) :
    WritesD sz r n s (s.mergeD sz r v) := by
  refine ⟨?_, fun q hq => ?_⟩
  · rw [State.mergeD_dreg, if_pos rfl, merge_toNat, hn, mergedNat]
  · rw [State.mergeD_dreg, if_neg hq]

/-- A value written into a data register after a source has been read, and flags. -/
theorem completes_mergeD (hexec : exec i s = .next (((afterLocate ea sz s).mergeD sz r v).setFlags f))
    (hlen : i.length = 1 + ea.words sz) (hn : v.toNat % 2 ^ sizeBits sz = n % 2 ^ sizeBits sz) (hf : P f) :
    ∃ t, exec i s = .next t ∧ Ordinary i s t ∧ (∀ q, t.areg q = movedA ea sz s q) ∧ KeepsMemory s t
      ∧ WritesD sz r n s t ∧ P t.sr.ccr := by
  obtain ⟨-, -, -, a, mem, -⟩ := afterSource_afterLocate ea sz s
  have hwrites := writesD_mergeD (r := r) (s := afterLocate ea sz s) hn
  simp only [WritesD, afterLocate_dreg] at hwrites
  exact ⟨_, hexec, ordinary_setFlags (ordinary_keep (ordinary_afterLocate hlen) (Harmless.refl _).mergeD rfl rfl) _,
    a, mem, hwrites, hf⟩

/-- A whole address register written after a source has been read, and no flag. -/
theorem completes_setA (hexec : exec i s = .next ((afterLocate ea sz s).setA r v))
    (hlen : i.length = 1 + ea.words sz) :
    ∃ t, exec i s = .next t ∧ Ordinary i s t ∧ KeepsFlags s t ∧ KeepsD s t ∧ KeepsMemory s t
      ∧ t.areg r = v ∧ ∀ q, q ≠ r → t.areg q = movedA ea sz s q := by
  obtain ⟨-, flags, d, a, mem, -⟩ := afterSource_afterLocate ea sz s
  refine ⟨_, hexec, ordinary_setA (ordinary_afterLocate hlen) _ _, flags, d, mem, State.setA_areg_same .., ?_⟩
  intro q hq
  rw [State.setA_areg, if_neg hq, a]

/-- Only flags after a source has been read. -/
theorem completes_setFlags (hexec : exec i s = .next ((afterLocate ea sz u).setFlags f))
    (hord : Ordinary i s (afterLocate ea sz u)) (hf : P f) :
    ∃ t, exec i s = .next t ∧ Ordinary i s t ∧ OnlyFlags ea sz u t ∧ P t.sr.ccr := by
  obtain ⟨-, -, d, a, mem, -⟩ := afterSource_afterLocate ea sz u
  exact ⟨_, hexec, ordinary_setFlags hord _, ⟨d, a, mem⟩, hf⟩

end

/-! The two-operand operations on a resolved operand, on a data register, and in their immediate and quick forms. -/

section
variable (op : AluOp) (sz : Size) (ea : EA) (s : State)

theorem aluApply_resolved (src : Long) :
    aluApply op sz src (locate ea sz s) (afterLocate ea sz s)
      = (writeResolved ea sz (aluResult op sz src (operand ea sz s)) s).setFlags
          (aluFlags op s.sr.ccr sz src (operand ea sz s)) := by
  simp only [aluApply, readOp_afterLocate, afterLocate_sr]
  rfl

theorem aluApply_dreg (src : Long) (dn : RegNo) :
    aluApply op sz src (.dreg dn) s
      = (s.mergeD sz dn (aluResult op sz src (trunc sz (s.dreg dn)))).setFlags
          (aluFlags op s.sr.ccr sz src (trunc sz (s.dreg dn))) := rfl

theorem aluToReg_eq (dn : RegNo) :
    aluToReg op sz ea dn s
      = .next (((afterLocate ea sz s).mergeD sz dn
          (aluResult op sz (operand ea sz s) (trunc sz (s.dreg dn)))).setFlags
          (aluFlags op s.sr.ccr sz (operand ea sz s) (trunc sz (s.dreg dn)))) := by
  simp only [aluToReg, withSource, readOp_afterLocate, aluApply_dreg, afterLocate_dreg, afterLocate_sr]
  rfl

theorem aluToEa_eq (dn : RegNo) :
    aluToEa op sz dn ea s
      = .next ((writeResolved ea sz (aluResult op sz (trunc sz (s.dreg dn)) (operand ea sz s)) s).setFlags
          (aluFlags op s.sr.ccr sz (trunc sz (s.dreg dn)) (operand ea sz s))) :=
  congrArg Host.Outcome.next (aluApply_resolved op sz ea s _)

theorem aluImm_eq (imm : Long) :
    aluImm op sz imm ea s
      = .next ((writeResolved ea sz (aluResult op sz imm (operand ea sz (s.consume (immediateWords sz))))
          (s.consume (immediateWords sz))).setFlags
          (aluFlags op s.sr.ccr sz imm (operand ea sz (s.consume (immediateWords sz))))) :=
  congrArg Host.Outcome.next (aluApply_resolved op sz ea (s.consume (immediateWords sz)) imm)

theorem aluQuick_eq (q : BitVec 3) (hn : ea.isAn = false) :
    aluQuick op sz q ea s
      = .next ((writeResolved ea sz (aluResult op sz (BitVec.ofNat 32 (quickNat q)) (operand ea sz s)) s).setFlags
          (aluFlags op s.sr.ccr sz (BitVec.ofNat 32 (quickNat q)) (operand ea sz s))) := by
  rw [← quickValue_eq, ← aluApply_resolved]
  cases ea with
  | an => cases hn
  | _ => rfl

end

/-! An addition and a subtraction through a resolved operand: `src` and the value operated with agree at the
size. -/

section
variable {i : Instr} {ea : EA} {sz : Size} {src v : Long} {old : Flags} {s u : State}
  (hsrc : uval sz v = uval sz src) (hord : Ordinary i s (afterLocate ea sz u)) (hea : Fits .dataalt sz ea)
include hsrc hord hea

theorem completes_add (hexec : exec i s = .next
    ((writeResolved ea sz (aluResult .add sz v (operand ea sz u)) u).setFlags
      (aluFlags .add old sz v (operand ea sz u)))) :
    ∃ t, exec i s = .next t ∧ Ordinary i s t ∧ Writes ea sz (sumOf sz src (operand ea sz u) false) u t
      ∧ AddFlags sz src (operand ea sz u) t.sr.ccr := by
  rw [← sumOf_congr hsrc rfl]
  exact completes_writeResolved hexec hord hea (aluResult_add_mod ..)
    (addFlags_congr hsrc rfl (addFlags_flagsAdd ..))

theorem completes_sub (hexec : exec i s = .next
    ((writeResolved ea sz (aluResult .sub sz v (operand ea sz u)) u).setFlags
      (aluFlags .sub old sz v (operand ea sz u)))) :
    ∃ t, exec i s = .next t ∧ Ordinary i s t ∧ Writes ea sz (differenceOf sz src (operand ea sz u) false) u t
      ∧ SubFlags sz src (operand ea sz u) t.sr.ccr := by
  rw [← differenceOf_congr hsrc rfl]
  exact completes_writeResolved hexec hord hea (aluResult_sub_mod ..)
    (subFlags_congr hsrc rfl (subFlags_flagsSub ..))

end

/-! ADD, SUB, ADDI, SUBI, ADDQ and SUBQ (R241, R243, R244, R246, R248, R249). -/

section
variable (sz : Size) (ea : EA) (s : State)

theorem exec_addEaDn (dn : RegNo) : exec (addEaDn sz ea dn) s = aluToReg .add sz ea dn s := by cases sz <;> rfl

theorem exec_subEaDn (dn : RegNo) : exec (subEaDn sz ea dn) s = aluToReg .sub sz ea dn s := by cases sz <;> rfl

theorem exec_addDnEa (dn : RegNo) : exec (addDnEa sz dn ea) s = aluToEa .add sz dn ea s := by cases sz <;> rfl

theorem exec_subDnEa (dn : RegNo) : exec (subDnEa sz dn ea) s = aluToEa .sub sz dn ea s := by cases sz <;> rfl

theorem exec_addq (q : BitVec 3) : exec (addq sz q ea) s = aluQuick .add sz q ea s := by cases sz <;> rfl

theorem exec_subq (q : BitVec 3) : exec (subq sz q ea) s = aluQuick .sub sz q ea s := by cases sz <;> rfl

/-- The immediate forms operate with the low bits of their long (R107). -/
theorem exec_immediate (v : Long) :
    exec (addi sz v ea) s = aluImm .add sz (trunc sz v) ea s
    ∧ exec (subi sz v ea) s = aluImm .sub sz (trunc sz v) ea s
    ∧ exec (cmpi sz v ea) s = cmpImm sz (trunc sz v) ea s := by
  cases sz with
  | b =>
    rw [← setWidth_byte]
    exact ⟨rfl, rfl, rfl⟩
  | w =>
    rw [← setWidth_word]
    exact ⟨rfl, rfl, rfl⟩
  | l =>
    rw [trunc_l_eq]
    exact ⟨rfl, rfl, rfl⟩

theorem register_length (dn : RegNo) :
    (addEaDn sz ea dn).length = 1 + ea.words sz ∧ (subEaDn sz ea dn).length = 1 + ea.words sz
    ∧ (addDnEa sz dn ea).length = 1 + ea.words sz ∧ (subDnEa sz dn ea).length = 1 + ea.words sz := by
  cases sz <;> exact ⟨rfl, rfl, rfl, rfl⟩

theorem quick_length (q : BitVec 3) :
    (addq sz q ea).length = 1 + ea.words sz ∧ (subq sz q ea).length = 1 + ea.words sz := by
  cases sz <;> exact ⟨rfl, rfl⟩

/-- The words of the immediate come before those of the operand. -/
theorem immediate_length (v : Long) :
    (addi sz v ea).length = 1 + (immediateWords sz + ea.words sz)
    ∧ (subi sz v ea).length = 1 + (immediateWords sz + ea.words sz)
    ∧ (cmpi sz v ea).length = 1 + (immediateWords sz + ea.words sz) := by
  rw [← Nat.add_assoc]
  cases sz <;> exact ⟨rfl, rfl, rfl⟩

end

/-- Settles O32: the register's low bits are the destination operand. -/
theorem addAndSubIntoARegister : Obligations.AddAndSubIntoARegister := by
  intro sz ea dn s
  obtain ⟨hadd, hsub, -, -⟩ := register_length sz ea dn
  have hd := uval_trunc sz (s.dreg dn)
  constructor
  · rw [← sumOf_congr rfl hd]
    exact completes_mergeD ((exec_addEaDn sz ea s dn).trans (aluToReg_eq ..)) hadd (aluResult_add_mod ..)
      (addFlags_congr rfl hd (addFlags_flagsAdd ..))
  · rw [← differenceOf_congr rfl hd]
    exact completes_mergeD ((exec_subEaDn sz ea s dn).trans (aluToReg_eq ..)) hsub (aluResult_sub_mod ..)
      (subFlags_congr rfl hd (subFlags_flagsSub ..))

/-- Settles O33: every form adds or subtracts through one resolved operand, the immediate forms after their own
words. -/
theorem addAndSubIntoAnOperand : Obligations.AddAndSubIntoAnOperand := by
  intro sz ea s
  refine ⟨fun dn hwf => ?add, fun dn hwf => ?sub, fun v hwf => ?addi, fun v hwf => ?subi,
    fun q hwf hn => ?addq, fun q hwf hn => ?subq⟩
  case add =>
    obtain ⟨-, -, hlen, -⟩ := register_length sz ea dn
    have hea : Fits .memalt sz ea := by cases sz <;> exact hwf
    exact completes_add (uval_trunc ..) (ordinary_afterLocate hlen) hea.dataalt_of_memalt
      ((exec_addDnEa ..).trans (aluToEa_eq ..))
  case sub =>
    obtain ⟨-, -, -, hlen⟩ := register_length sz ea dn
    have hea : Fits .memalt sz ea := by cases sz <;> exact hwf
    exact completes_sub (uval_trunc ..) (ordinary_afterLocate hlen) hea.dataalt_of_memalt
      ((exec_subDnEa ..).trans (aluToEa_eq ..))
  case addi =>
    obtain ⟨hexec, -, -⟩ := exec_immediate sz ea s v
    obtain ⟨hlen, -, -⟩ := immediate_length sz ea v
    have hea : Fits .dataalt sz ea := by cases sz <;> exact hwf
    exact completes_add (uval_trunc ..) (ordinary_afterImmediate hlen) hea (hexec.trans (aluImm_eq ..))
  case subi =>
    obtain ⟨-, hexec, -⟩ := exec_immediate sz ea s v
    obtain ⟨-, hlen, -⟩ := immediate_length sz ea v
    have hea : Fits .dataalt sz ea := by cases sz <;> exact hwf
    exact completes_sub (uval_trunc ..) (ordinary_afterImmediate hlen) hea (hexec.trans (aluImm_eq ..))
  case addq =>
    obtain ⟨hlen, -⟩ := quick_length sz ea q
    have hea : Fits .alt sz ea := by cases sz <;> exact hwf
    exact completes_add rfl (ordinary_afterLocate hlen) (hea.dataalt_of_alt hn)
      ((exec_addq ..).trans (aluQuick_eq _ _ _ _ _ hn))
  case subq =>
    obtain ⟨-, hlen⟩ := quick_length sz ea q
    have hea : Fits .alt sz ea := by cases sz <;> exact hwf
    exact completes_sub rfl (ordinary_afterLocate hlen) (hea.dataalt_of_alt hn)
      ((exec_subq ..).trans (aluQuick_eq _ _ _ _ _ hn))

/-! ADDA, SUBA, and ADDQ and SUBQ to an address register (R242, R244, R247, R249). -/

section
variable (long : Bool) (an : RegNo) (s : State)

theorem exec_adda (ea : EA) :
    exec (adda long ea an) s = .next ((afterLocate ea (wl long) s).setA an
      (movedA ea (wl long) s an + BitVec.ofInt 32 (sval (wl long) (operand ea (wl long) s)))) := by
  have h : exec (adda long ea an) s = addToAddress (wl long) ea an s := by cases long <;> rfl
  rw [h, addToAddress, withSource, readOp_afterLocate, afterLocate_areg_movedA, sext_eq_ofInt]
  rfl

theorem exec_suba (ea : EA) :
    exec (suba long ea an) s = .next ((afterLocate ea (wl long) s).setA an
      (movedA ea (wl long) s an - BitVec.ofInt 32 (sval (wl long) (operand ea (wl long) s)))) := by
  have h : exec (suba long ea an) s = subFromAddress (wl long) ea an s := by cases long <;> rfl
  rw [h, subFromAddress, withSource, readOp_afterLocate, afterLocate_areg_movedA, sext_eq_ofInt]
  rfl

theorem exec_addqA (q : BitVec 3) :
    exec (addqA long q an) s = .next (s.setA an (s.areg an + BitVec.ofNat 32 (quickNat q))) := by
  have h : exec (addqA long q an) s = .next (s.setA an (aluResult .add .l (quickValue q) (s.areg an))) := by
    cases long <;> rfl
  rw [h, aluResult, trunc_l_eq, quickValue_eq]

theorem exec_subqA (q : BitVec 3) :
    exec (subqA long q an) s = .next (s.setA an (s.areg an - BitVec.ofNat 32 (quickNat q))) := by
  have h : exec (subqA long q an) s = .next (s.setA an (aluResult .sub .l (quickValue q) (s.areg an))) := by
    cases long <;> rfl
  rw [h, aluResult, trunc_l_eq, quickValue_eq]

/-- An instruction of one word that writes an address register and no flag. -/
theorem completes_setA_one {i : Instr} {v : Long} (hexec : exec i s = .next (s.setA an v)) (hlen : i.length = 1) :
    ∃ t, exec i s = .next t ∧ Ordinary i s t ∧ KeepsFlags s t ∧ KeepsD s t ∧ KeepsMemory s t
      ∧ ∀ k, t.areg k = if k = an then v else s.areg k :=
  ⟨_, hexec, ordinary_of_harmless_one (Harmless.refl s).setA rfl hlen rfl, rfl, fun _ => rfl, ⟨fun _ => rfl, rfl⟩,
    fun k => s.setA_areg an k v⟩

end

/-- Settles O34: the source's own register has moved before the sum is taken; the quick forms resolve nothing. -/
theorem addressArithmeticKeepsTheFlags : Obligations.AddressArithmeticKeepsTheFlags := by
  intro long an s
  refine ⟨fun ea => completes_setA (exec_adda ..) ?_, fun ea => completes_setA (exec_suba ..) ?_,
    fun q => completes_setA_one an s (exec_addqA ..) ?_, fun q => completes_setA_one an s (exec_subqA ..) ?_⟩
  all_goals cases long <;> rfl

end Sys2Proof.Proofs
end

section
/-! The compares, and the operations with the extend bit (R194, R245, R250 to R257): O35, O36, O37. -/

namespace Sys2Proof.Proofs

open Sys2Proof.Machine Sys2Proof.Claims Sys2Proof.Laws

/-! CMP, CMPA, CMPI, CMPM and TST (R251 to R254, R257). -/

section
variable (sz : Size) (ea : EA) (s : State)

theorem exec_cmp (dn : RegNo) :
    exec (cmp sz ea dn) s = .next ((afterLocate ea sz s).setFlags
      (flagsCmp s.sr.ccr sz (operand ea sz s) (trunc sz (s.dreg dn))
        (trunc sz (trunc sz (s.dreg dn) - operand ea sz s)))) := by
  have h : exec (cmp sz ea dn) s = compare sz ea dn s := by cases sz <;> rfl
  rw [h]
  simp only [Machine.compare, withSource, compareWith, readOp_afterLocate, afterLocate_dreg, afterLocate_sr]
  rfl

theorem exec_cmpa (long : Bool) (an : RegNo) :
    exec (cmpa long ea an) s = .next ((afterLocate ea (wl long) s).setFlags
      (flagsCmp s.sr.ccr .l (BitVec.ofInt 32 (sval (wl long) (operand ea (wl long) s)))
        (movedA ea (wl long) s an)
        (trunc .l (movedA ea (wl long) s an - BitVec.ofInt 32 (sval (wl long) (operand ea (wl long) s)))))) := by
  have h : exec (cmpa long ea an) s = compareAddress (wl long) ea an s := by cases long <;> rfl
  rw [h]
  simp only [compareAddress, withSource, compareWith, readOp_afterLocate, afterLocate_areg_movedA, sext_eq_ofInt,
    afterLocate_sr]
  rfl

theorem cmpImm_eq (imm : Long) :
    cmpImm sz imm ea s = .next ((afterLocate ea sz (s.consume (immediateWords sz))).setFlags
      (flagsCmp s.sr.ccr sz imm (operand ea sz (s.consume (immediateWords sz)))
        (trunc sz (operand ea sz (s.consume (immediateWords sz)) - imm)))) := by
  simp only [cmpImm, withSource, compareWith, readOp_afterLocate, afterLocate_sr]
  rfl

/-- The second operand is located in the state with the first one read. -/
theorem exec_cmpm (ay ax : RegNo) {s₁ : State} (h₁ : s₁ = afterLocate (.postInc ay) sz s) :
    exec (cmpm sz ay ax) s = .next ((afterLocate (.postInc ax) sz s₁).setFlags
      (flagsCmp s.sr.ccr sz (operand (.postInc ay) sz s) (operand (.postInc ax) sz s₁)
        (trunc sz (operand (.postInc ax) sz s₁ - operand (.postInc ay) sz s)))) := by
  subst h₁
  cases sz <;> rfl

theorem exec_tst :
    exec (tst sz ea) s = .next ((afterLocate ea sz s).setFlags (flagsLogic s.sr.ccr sz (operand ea sz s))) := by
  have h : exec (tst sz ea) s = test sz ea s := by cases sz <;> rfl
  rw [h]
  simp only [test, withSource, readOp_afterLocate, afterLocate_sr]
  rfl

theorem movedA_consume (k : Nat) (q : RegNo) : movedA ea sz (s.consume k) q = movedA ea sz s q := by
  cases ea <;> rfl

end

/-- Passing an instruction's own words first changes nothing else. -/
theorem onlyFlags_of_consume {ea : EA} {sz : Size} {k : Nat} {s t : State} (h : OnlyFlags ea sz (s.consume k) t) :
    OnlyFlags ea sz s t := by
  obtain ⟨d, a, mem⟩ := h
  exact ⟨d, fun q => (a q).trans (movedA_consume sz ea s k q), mem⟩

/-- Settles O35: every compare ends in `setFlags` with its operands resolved and read. -/
theorem comparesWriteOnlyFlags : Obligations.ComparesWriteOnlyFlags := by
  intro s
  refine ⟨fun sz ea dn => ?cmp, fun long ea an => ?cmpa, fun sz v ea => ?cmpi, fun sz ay ax => ?cmpm,
    fun sz ea => ?tst⟩
  case cmp =>
    exact completes_setFlags (exec_cmp ..) (ordinary_afterLocate (by cases sz <;> rfl))
      (compareFlags_congr rfl (uval_trunc ..) (compareFlags_flagsCmp ..))
  case cmpa =>
    exact completes_setFlags (exec_cmpa ..) (ordinary_afterLocate (by cases long <;> rfl))
      (compareFlags_flagsCmp ..)
  case cmpi =>
    obtain ⟨-, -, hexec⟩ := exec_immediate sz ea s v
    obtain ⟨-, -, hlen⟩ := immediate_length sz ea v
    obtain ⟨t, ht, hord, honly, hf⟩ := completes_setFlags (P := CompareFlags sz v _ s.sr.ccr)
      (hexec.trans (cmpImm_eq ..)) (ordinary_afterImmediate hlen)
      (compareFlags_congr (uval_trunc ..) rfl (compareFlags_flagsCmp ..))
    exact ⟨t, ht, hord, onlyFlags_of_consume honly, hf⟩
  case cmpm =>
    have hord : Ordinary (cmpm sz ay ax) s (afterLocate (.postInc ax) sz (afterLocate (.postInc ay) sz s)) :=
      ordinary_of_harmless_one (Harmless.refl s).afterLocate.afterLocate rfl (by cases sz <;> rfl) rfl
    obtain ⟨t, ht⟩ := completes_setFlags (exec_cmpm sz s ay ax rfl) hord (compareFlags_flagsCmp ..)
    exact ⟨_, t, afterSource_afterLocate .., ht⟩
  case tst =>
    exact completes_setFlags (exec_tst ..) (ordinary_afterLocate (by cases sz <;> rfl))
      (logicFlags_flagsLogic ..)

/-! NEG and NEGX (R255, R256). -/

section
variable (sz : Size) (ea : EA) (s : State)

theorem exec_neg :
    exec (neg sz ea) s = .next ((writeResolved ea sz (aluResult .sub sz (operand ea sz s) 0#32) s).setFlags
      (flagsSub sz (operand ea sz s) 0#32 (trunc sz (0#32 - operand ea sz s)))) := by
  have h : exec (neg sz ea) s = negate sz ea s := by cases sz <;> rfl
  rw [h]
  simp only [negate, withOperand, readOp_afterLocate]
  rfl

theorem exec_negx :
    exec (negx sz ea) s
      = .next ((writeResolved ea sz (extendedResult .sub sz (operand ea sz s) 0#32 s.sr.ccr.x) s).setFlags
          (flagsSubX s.sr.ccr sz (operand ea sz s) 0#32
            (extendedResult .sub sz (operand ea sz s) 0#32 s.sr.ccr.x))) := by
  have h : exec (negx sz ea) s = negateX sz ea s := by cases sz <;> rfl
  rw [h]
  simp only [negateX, withOperand, readOp_afterLocate, afterLocate_sr]
  rfl

end

/-! The flags of an addition and a subtraction with the extend bit, all five (R194). -/

section
variable (sz : Size) (s d : Long) (old : Flags)

theorem flagsAddX_extendedResult {f : Flags}
    (hf : f = flagsAddX old sz s d (extendedResult .add sz s d old.x)) :
    CarryFlags sz s d old.x f ∧ (f.z = true ↔ old.z = true ∧ ZeroAt sz (sumOf sz s d old.x)) := by
  have hr := extendedResult_add_toNat sz s d old.x
  subst hf
  exact ⟨carryFlags_flagsAddX old sz s d _ old.x hr, sticky_zero_iff sz _ hr⟩

theorem flagsSubX_extendedResult {f : Flags}
    (hf : f = flagsSubX old sz s d (extendedResult .sub sz s d old.x)) :
    BorrowFlags sz s d old.x f ∧ f.x = f.c
      ∧ (f.z = true ↔ old.z = true ∧ ZeroAt sz (differenceOf sz s d old.x)) := by
  have hr := extendedResult_sub_toNat sz s d old.x
  subst hf
  exact ⟨borrowFlags_flagsSubX old sz s d _ old.x hr, rfl, sticky_zero_iff sz _ hr⟩

end

/-- Settles O36: NEG is a subtraction from zero, NEGX one with the extend bit. -/
theorem negAndNegxSubtractFromZero : Obligations.NegAndNegxSubtractFromZero := by
  intro sz ea s
  refine ⟨fun hwf => ?neg, fun hwf => ?negx⟩
  case neg =>
    exact completes_writeResolved (exec_neg ..) (ordinary_afterLocate (by cases sz <;> rfl))
      (by cases sz <;> exact hwf) (aluResult_sub_mod ..) (subFlags_flagsSub ..)
  case negx =>
    have hr := extendedResult_sub_toNat sz (operand ea sz s) 0#32 s.sr.ccr.x
    obtain ⟨t, ht, hord, hwrites, hf⟩ := completes_writeResolved (P := (· = _)) (exec_negx sz ea s)
      (ordinary_afterLocate (by cases sz <;> rfl)) (by cases sz <;> exact hwf)
      ((congrArg (· % _) hr).trans (Nat.mod_mod _ _)) rfl
    exact ⟨t, ht, hord, hwrites, flagsSubX_extendedResult _ _ _ _ hf⟩

/-! ADDX and SUBX (R245, R250). -/

section
variable {sz : Size} {form : RxForm} {ry rx : RegNo} {s s₁ : State}

/-- The operands of the `RX_RY` format (R245): the source is read before the destination is resolved. -/
theorem withPair_eq (k : Long → Loc → State → Result) (h₁ : s₁ = afterLocate (pairEA form ry) sz s) :
    withPair sz form ry rx s k
      = k (operand (pairEA form ry) sz s) (locate (pairEA form rx) sz s₁) (afterLocate (pairEA form rx) sz s₁) := by
  subst h₁
  cases form <;> rfl

theorem fits_pairEA : Fits .dataalt sz (pairEA form rx) := by
  cases form <;> cases sz <;> rfl

theorem ordinary_afterPair {i : Instr} (hlen : i.length = 1) (h₁ : s₁ = afterLocate (pairEA form ry) sz s) :
    Ordinary i s (afterLocate (pairEA form rx) sz s₁) := by
  subst h₁
  refine ordinary_of_harmless_one (Harmless.refl s).afterLocate.afterLocate (by simp) hlen ?_
  cases form <;> rfl

theorem extended_eq (op : ExtOp) (h₁ : s₁ = afterLocate (pairEA form ry) sz s) :
    extended op sz form ry rx s
      = .next ((writeResolved (pairEA form rx) sz (extendedResult op sz (operand (pairEA form ry) sz s)
            (operand (pairEA form rx) sz s₁) s.sr.ccr.x) s₁).setFlags
          (extendedFlags op s.sr.ccr sz (operand (pairEA form ry) sz s) (operand (pairEA form rx) sz s₁)
            (extendedResult op sz (operand (pairEA form ry) sz s) (operand (pairEA form rx) sz s₁)
              s.sr.ccr.x))) := by
  have hsr : s₁.sr = s.sr := h₁ ▸ afterLocate_sr ..
  rw [extended, withPair_eq _ h₁]
  simp only [extendedApply, readOp_afterLocate, afterLocate_sr, hsr]
  rfl

/-- An instruction of the `RX_RY` format that adds or subtracts with the extend bit. -/
theorem completes_extended {i : Instr} {op : ExtOp} {n : Nat} (hexec : exec i s = extended op sz form ry rx s)
    (hlen : i.length = 1) (h₁ : s₁ = afterLocate (pairEA form ry) sz s)
    (hn : (extendedResult op sz (operand (pairEA form ry) sz s) (operand (pairEA form rx) sz s₁)
      s.sr.ccr.x).toNat = n % 2 ^ sizeBits sz) :
    ∃ t, exec i s = .next t ∧ Ordinary i s t ∧ Writes (pairEA form rx) sz n s₁ t
      ∧ t.sr.ccr = extendedFlags op s.sr.ccr sz (operand (pairEA form ry) sz s) (operand (pairEA form rx) sz s₁)
          (extendedResult op sz (operand (pairEA form ry) sz s) (operand (pairEA form rx) sz s₁) s.sr.ccr.x) :=
  completes_writeResolved (P := (· = _)) (hexec.trans (extended_eq op h₁)) (ordinary_afterPair hlen h₁)
    fits_pairEA ((congrArg (· % _) hn).trans (Nat.mod_mod _ _)) rfl

end

section
variable (sz : Size) (form : RxForm) (ry rx : RegNo) (s : State)

theorem exec_addx : exec (addx sz form ry rx) s = extended .add sz form ry rx s := by cases sz <;> rfl

theorem exec_subx : exec (subx sz form ry rx) s = extended .sub sz form ry rx s := by cases sz <;> rfl

end

/-- Settles O37: both operations read their source first and then write through the resolved destination. -/
theorem addxAndSubxCarryTheExtendBit : Obligations.AddxAndSubxCarryTheExtendBit := by
  intro sz form ry rx s
  refine ⟨_, afterSource_afterLocate (pairEA form ry) sz s, ?addx, ?subx⟩
  case addx =>
    obtain ⟨t, ht, hord, hwrites, hf⟩ := completes_extended (exec_addx sz form ry rx s) (by cases sz <;> rfl)
      rfl (extendedResult_add_toNat ..)
    exact ⟨t, ht, hord, hwrites, flagsAddX_extendedResult _ _ _ _ hf⟩
  case subx =>
    obtain ⟨t, ht, hord, hwrites, hf⟩ := completes_extended (exec_subx sz form ry rx s) (by cases sz <;> rfl)
      rfl (extendedResult_sub_toNat ..)
    exact ⟨t, ht, hord, hwrites, flagsSubX_extendedResult _ _ _ _ hf⟩

end Sys2Proof.Proofs
end

section
/-! Multiplication and division (R258 to R261): exact products, the exception of a zero divisor, quotients that
fit and quotients that do not. O38, O39, O17. -/

namespace Sys2Proof.Proofs

open Sys2Proof.Machine Sys2Proof.Claims Sys2Proof.Laws

/-- A value read from an operand is a number of its size. -/
theorem operand_toNat {ea : EA} {sz : Size} (h : ea.wf sz = true) (s : State) :
    (operand ea sz s).toNat = uval sz (operand ea sz s) := by
  conv_lhs => rw [← trunc_operand ea sz s h, trunc_toNat]
  rfl

theorem operand_eq_zero_iff {ea : EA} {sz : Size} (h : ea.wf sz = true) (s : State) :
    operand ea sz s = 0#32 ↔ uval sz (operand ea sz s) = 0 := by
  rw [← operand_toNat h]
  exact BitVec.toNat_inj.symm

/-! MULU and MULS (R258, R259). -/

/-- The product of two words fits a long. -/
theorem mul_toNat_of_words {a b : Long} (ha : a.toNat < 2 ^ 16) (hb : b.toNat < 2 ^ 16) :
    (a * b).toNat = a.toNat * b.toNat := by
  rw [BitVec.toNat_mul]
  apply Nat.mod_eq_of_lt
  calc a.toNat * b.toNat < 2 ^ 16 * 2 ^ 16 := Nat.mul_lt_mul'' ha hb
    _ = 2 ^ 32 := rfl

theorem natAbs_sval_word_le (v : Long) : (sval .w v).natAbs ≤ 2 ^ 15 := by
  have h := uval_lt .w v
  simp only [sval, sizeBits] at h ⊢
  omega

/-- The product of two signed words fits a signed long. -/
theorem mul_sext_toInt (a b : Long) : (sext .w a * sext .w b).toInt = sval .w a * sval .w b := by
  have h : (sval .w a * sval .w b).natAbs ≤ 2 ^ 15 * 2 ^ 15 := by
    rw [Int.natAbs_mul]
    exact Nat.mul_le_mul (natAbs_sval_word_le a) (natAbs_sval_word_le b)
  rw [BitVec.toInt_mul, sext_toInt, sext_toInt]
  apply Int.bmod_eq_of_le <;> omega

section
variable {i : Instr} {ea : EA} {dn : RegNo} {v : Long} {s : State}

/-- A whole data register written after a word has been read, and the flags of the long written. -/
theorem completes_setD (hexec : exec i s
      = .next (((afterLocate ea .w s).setD dn v).setFlags (flagsLogic s.sr.ccr .l v)))
    (hlen : i.length = 1 + ea.words .w) :
    ∃ t, exec i s = .next t ∧ Ordinary i s t ∧ (∀ q, t.areg q = movedA ea .w s q) ∧ KeepsMemory s t
      ∧ (∀ q, q ≠ dn → t.dreg q = s.dreg q) ∧ t.dreg dn = v ∧ LogicFlags .l (t.dreg dn).toNat s.sr.ccr t.sr.ccr := by
  obtain ⟨-, -, d, a, mem, -⟩ := afterSource_afterLocate ea .w s
  have hdn : ((afterLocate ea .w s).setD dn v).dreg dn = v := State.setD_dreg_same ..
  refine ⟨_, hexec, ordinary_setFlags (ordinary_keep (ordinary_afterLocate hlen) (Harmless.refl _).setD rfl rfl) _,
    a, mem, fun q hq => ?_, hdn, ?_⟩
  · rw [State.setFlags_dreg, State.setD_dreg, if_neg hq, d]
  · rw [State.setFlags_dreg, hdn]
    exact logicFlags_flagsLogic .l s.sr.ccr v

end

section
variable (ea : EA) (dn : RegNo) (s : State)

theorem exec_mulu :
    exec (.mulu ea dn) s = .next (((afterLocate ea .w s).setD dn (operand ea .w s * trunc .w (s.dreg dn))).setFlags
      (flagsLogic s.sr.ccr .l (operand ea .w s * trunc .w (s.dreg dn)))) := by
  show multiplyUnsigned ea dn s = _
  simp only [multiplyUnsigned, withSource, readOp_afterLocate, afterLocate_dreg, afterLocate_sr]
  rfl

theorem exec_muls :
    exec (.muls ea dn) s
      = .next (((afterLocate ea .w s).setD dn (sext .w (operand ea .w s) * sext .w (s.dreg dn))).setFlags
          (flagsLogic s.sr.ccr .l (sext .w (operand ea .w s) * sext .w (s.dreg dn)))) := by
  show multiplySigned ea dn s = _
  simp only [multiplySigned, withSource, readOp_afterLocate, afterLocate_dreg, afterLocate_sr]
  rfl

end

/-- Settles O38: no product of two words overflows a long. -/
theorem multiplyIsExact : Obligations.MultiplyIsExact := by
  intro ea dn s hwf
  constructor
  · obtain ⟨t, ht, hord, ha, hmem, hd, hdn, hf⟩ := completes_setD (exec_mulu ea dn s) rfl
    refine ⟨t, ht, hord, ha, hmem, hd, ?_, hf⟩
    have hreg : (trunc .w (s.dreg dn)).toNat = uval .w (s.dreg dn) := trunc_toNat ..
    have hop := operand_toNat hwf s
    rw [hdn, mul_toNat_of_words (hop ▸ uval_lt ..) (hreg ▸ uval_lt ..), hop, hreg]
  · obtain ⟨t, ht, hord, ha, hmem, hd, hdn, hf⟩ := completes_setD (exec_muls ea dn s) rfl
    exact ⟨t, ht, hord, ha, hmem, hd, by rw [hdn, mul_sext_toInt], hf⟩

/-! A divisor that is zero (R260, R261). -/

/-- What the exception of a zero divisor starts from: the operand read, and three flags drawn. -/
def zeroDivideState (s : State) : State :=
  (s.setFlags ⟨s.sr.ccr.x, s.freeBit 0, s.freeBit 1, s.freeBit 2, false⟩).advanceDraws 3

theorem afterDrawn_zeroDivideState (ea : EA) (s : State) :
    AfterDrawn ea 3 s (zeroDivideState (afterLocate ea .w s)) := by
  obtain ⟨⟨-, draws⟩, flags, d, a, mem, pc⟩ := afterSource_afterLocate ea .w s
  have hx : (afterLocate ea .w s).sr.ccr.x = s.sr.ccr.x := congrArg Flags.x flags
  exact ⟨(Harmless.refl s).afterLocate.setFlags.advanceDraws.system, congrArg (· + 3) draws, hx, d, a, mem, pc⟩

theorem raises_zeroDivide (s : State) : Raises 5 (zeroDivideState s) (zeroDivide s) := raises_enterException 5 _

section
variable {ea : EA} {dn : RegNo} {s : State} (hwf : ea.wf .w = true)
include hwf

theorem exec_div_zero (h0 : uval .w (operand ea .w s) = 0) :
    exec (.divu ea dn) s = zeroDivide (afterLocate ea .w s)
    ∧ exec (.divs ea dn) s = zeroDivide (afterLocate ea .w s) := by
  have hop : (afterLocate ea .w s).readOp (locate ea .w s) .w = 0#32 :=
    (readOp_afterLocate ..).trans ((operand_eq_zero_iff hwf s).mpr h0)
  exact ⟨if_pos hop, if_pos hop⟩

end

/-- Settles O17: both divisions test their divisor before anything else. -/
theorem zeroDivisorTakesVectorFive : Obligations.ZeroDivisorTakesVectorFive := by
  intro ea dn s h0 hwf
  obtain ⟨hu, hs⟩ := exec_div_zero (dn := dn) hwf h0
  rw [hu, hs]
  have h := raises_zeroDivide (afterLocate ea .w s)
  exact ⟨⟨_, afterDrawn_zeroDivideState ea s, rfl, h⟩, ⟨_, afterDrawn_zeroDivideState ea s, rfl, h⟩⟩

/-! A divisor that is not zero (R260, R261). -/

section
variable {ea : EA} {dn : RegNo} {s : State} (hwf : ea.wf .w = true) (h0 : uval .w (operand ea .w s) ≠ 0)
include hwf h0

theorem exec_divu :
    exec (.divu ea dn) s = .next
      (if 65535 < (s.dreg dn).toNat / uval .w (operand ea .w s) then divideOverflow (afterLocate ea .w s)
       else divideFits dn ((s.dreg dn).toNat / uval .w (operand ea .w s) : Nat)
         ((s.dreg dn).toNat % uval .w (operand ea .w s) : Nat) (afterLocate ea .w s)) := by
  have hop : operand ea .w s ≠ 0#32 := mt (operand_eq_zero_iff hwf s).mp h0
  show divideUnsigned ea dn s = _
  simp only [divideUnsigned, withSource, readOp_afterLocate, afterLocate_dreg]
  rw [← operand_toNat hwf, apply_ite Host.Outcome.next]
  exact if_neg hop

theorem exec_divs :
    exec (.divs ea dn) s = .next
      (if (s.dreg dn).toInt.tdiv (sval .w (operand ea .w s)) < -32768
          ∨ 32767 < (s.dreg dn).toInt.tdiv (sval .w (operand ea .w s)) then divideOverflow (afterLocate ea .w s)
       else divideFits dn ((s.dreg dn).toInt.tdiv (sval .w (operand ea .w s)))
         ((s.dreg dn).toInt.tmod (sval .w (operand ea .w s))) (afterLocate ea .w s)) := by
  have hop : operand ea .w s ≠ 0#32 := mt (operand_eq_zero_iff hwf s).mp h0
  have hval : signedOf .w (operand ea .w s) = sval .w (operand ea .w s) := sext_toInt ..
  show divideSigned ea dn s = _
  simp only [divideSigned, withSource, readOp_afterLocate, afterLocate_dreg]
  rw [← hval, apply_ite Host.Outcome.next]
  exact if_neg hop

end

section
variable {i : Instr} {ea : EA} {dn : RegNo} {s : State} {overflows : Prop} [Decidable overflows] {q m : Int}

/-- What both divisions leave, in either case: remainder above quotient, or the destination unchanged. -/
theorem completes_divide (hexec : exec i s = .next
      (if overflows then divideOverflow (afterLocate ea .w s) else divideFits dn q m (afterLocate ea .w s)))
    (hlen : i.length = 1 + ea.words .w) :
    ∃ t, exec i s = .next t ∧ Advances i s t ∧ (∀ k, t.areg k = movedA ea .w s k) ∧ KeepsMemory s t
      ∧ (∀ k, k ≠ dn → t.dreg k = s.dreg k) ∧ t.sr.ccr.x = s.sr.ccr.x ∧ t.sr.ccr.c = false
      ∧ (¬ overflows → t.dreg dn = BitVec.ofInt 16 m ++ BitVec.ofInt 16 q ∧ t.sr.ccr.v = false ∧ t.draws = s.draws
          ∧ t.sr.ccr.n = (BitVec.ofInt 16 q).getLsbD 15 ∧ t.sr.ccr.z = decide (q = 0))
      ∧ (overflows → t.dreg dn = s.dreg dn ∧ t.sr.ccr.v = true ∧ t.draws = s.draws + 2) := by
  obtain ⟨⟨-, draws⟩, flags, d, a, mem, -⟩ := afterSource_afterLocate ea .w s
  have hx : (afterLocate ea .w s).sr.ccr.x = s.sr.ccr.x := congrArg Flags.x flags
  have hadv := (ordinary_afterLocate (s := s) hlen).advances
  by_cases h : overflows
  · rw [if_pos h] at hexec
    exact ⟨_, hexec, ⟨(Harmless.refl s).afterLocate.setFlags.advanceDraws.system, hadv.pc⟩, a, mem,
      fun k _ => d k, hx, rfl, absurd h, fun _ => ⟨d dn, rfl, congrArg (· + 2) draws⟩⟩
  · rw [if_neg h] at hexec
    refine ⟨_, hexec, ⟨(Harmless.refl s).afterLocate.setD.setFlags.system, hadv.pc⟩, a, mem, fun k hk => ?_, hx, rfl,
      fun _ => ⟨State.setD_dreg_same .., rfl, draws, rfl, rfl⟩, fun h' => absurd h' h⟩
    exact (State.setD_dreg ..).trans ((if_neg hk).trans (d k))

end

/-! A remainder above a quotient, as numbers. -/

theorem ofInt_append_toNat (m q : Int) :
    ((BitVec.ofInt 16 m ++ BitVec.ofInt 16 q).toNat : Int) = m % 65536 * 65536 + q % 65536 := by
  rw [toNat_append_add, BitVec.toNat_ofInt, BitVec.toNat_ofInt]
  omega

theorem ofInt_getLsbD_15_iff (q : Int) : (BitVec.ofInt 16 q).getLsbD 15 = true ↔ 32768 ≤ q % 65536 := by
  rw [BitVec.getLsbD, BitVec.toNat_ofInt, Nat.testBit_eq_decide_div_mod_eq, decide_eq_true_iff]
  omega

theorem sval_ofInt_append (m : Int) {q : Int} (hlo : -32768 ≤ q) (hhi : q ≤ 32767) :
    sval .w (BitVec.ofInt 16 m ++ BitVec.ofInt 16 q) = q := by
  have h := ofInt_append_toNat m q
  simp only [sval, uval, sizeBits]
  omega

theorem ofNat_append_toNat {m q : Nat} (hm : m < 65536) (hq : q ≤ 65535) :
    (BitVec.ofInt 16 m ++ BitVec.ofInt 16 q).toNat = m * 65536 + q := by
  have h := ofInt_append_toNat m q
  omega

theorem ofNat_getLsbD_15_iff {q : Nat} (hq : q ≤ 65535) : (BitVec.ofInt 16 q).getLsbD 15 = true ↔ 32768 ≤ q := by
  rw [ofInt_getLsbD_15_iff]
  omega

/-- Settles O39: a quotient that fits is its own low word, unsigned for DIVU and signed for DIVS. -/
theorem divideFitsOrOverflows : Obligations.DivideFitsOrOverflows := by
  intro ea dn s hwf h0
  constructor
  · obtain ⟨t, ht, hadv, ha, hmem, hd, hx, hc, hfits, hover⟩ := completes_divide (exec_divu (dn := dn) hwf h0) rfl
    refine ⟨t, ht, hadv, ha, hmem, hd, hx, hc, fun hq => ?_, hover⟩
    obtain ⟨hdn, hv, hdraws, hn, hz⟩ := hfits (Nat.not_lt.mpr hq)
    have hrem : (s.dreg dn).toNat % uval .w (operand ea .w s) < 65536 :=
      (Nat.mod_lt _ (Nat.pos_of_ne_zero h0)).trans (uval_lt ..)
    refine ⟨?_, hv, hdraws, ?_, ?_⟩
    · rw [hdn, ofNat_append_toNat hrem hq]
    · rw [hn, ofNat_getLsbD_15_iff hq]
    · rw [hz, decide_eq_true_iff, Nat.cast_eq_zero]
  · obtain ⟨t, ht, hadv, ha, hmem, hd, hx, hc, hfits, hover⟩ := completes_divide (exec_divs (dn := dn) hwf h0) rfl
    refine ⟨t, ht, hadv, ha, hmem, hd, hx, hc, fun hlo hhi => ?_, hover⟩
    obtain ⟨hdn, hv, hdraws, hn, hz⟩ := hfits (by omega)
    refine ⟨?_, ?_, hv, hdraws, ?_, ?_⟩
    · rw [hdn, sval_ofInt_append _ hlo hhi]
    · rw [hdn, ofInt_append_toNat]
      omega
    · rw [hn, ofInt_getLsbD_15_iff]
      omega
    · rw [hz, decide_eq_true_iff]

end Sys2Proof.Proofs
end

section
/-! The decimal instructions (R262 to R265): the byte they write, and the arithmetic of its two digits: O40, O41. -/

namespace Sys2Proof.Proofs

open Sys2Proof.Machine Sys2Proof.Claims Sys2Proof.Laws

/-! ABCD, SBCD and NBCD. -/

/-- A decimal result is a byte. -/
theorem bcdAdds_lt {s d : Nat} {x : Bool} {p : Nat × Bool} (h : BcdAdds s d x p) : p.1 < 256 := by
  obtain ⟨-, h⟩ := h
  omega

theorem bcdSubs_lt {s d : Nat} {x : Bool} {p : Nat × Bool} (h : BcdSubs s d x p) : p.1 < 256 := by
  obtain ⟨-, h⟩ := h
  omega

theorem decimalFlags_flagsBcd {p : Nat × Bool} (hp : p.1 < 256) (old : Flags) (n v : Bool) :
    DecimalFlags p old (flagsBcd old (BitVec.ofNat 32 p.1) p.2 n v) := by
  refine ⟨rfl, rfl, ?_⟩
  have hzero : BitVec.ofNat 32 p.1 = 0#32 ↔ p.1 = 0 := by
    rw [← BitVec.toNat_inj, BitVec.toNat_ofNat, Nat.mod_eq_of_lt (hp.trans (by decide))]
    rfl
  rw [flagsBcd, Bool.and_eq_true, decide_eq_true_eq, hzero]

section
variable {i : Instr} {ea : EA} {p : Nat × Bool} {s u : State}

/-- A decimal result written through a resolved byte operand. -/
theorem completes_writeDecimal
    (hexec : exec i s = .next (writeDecimal (locate ea .b u) p (afterLocate ea .b u)))
    (hord : Ordinary i s (afterLocate ea .b u)) (hea : Fits .dataalt .b ea) (hp : p.1 < 256)
    (hccr : u.sr.ccr = s.sr.ccr) :
    ∃ t, exec i s = .next t ∧ Advances i s t ∧ t.draws = s.draws + 2 ∧ Writes ea .b p.1 u t
      ∧ DecimalFlags p s.sr.ccr t.sr.ccr := by
  have hwritten := ordinary_writeOp (sz := .b) hord (locate ea .b u) (BitVec.ofNat 32 p.1)
  have hold : (afterLocate ea .b u).sr.ccr = s.sr.ccr := by rw [afterLocate_sr, hccr]
  have hn : (BitVec.ofNat 32 p.1).toNat % 2 ^ sizeBits .b = p.1 % 2 ^ sizeBits .b := by
    rw [BitVec.toNat_ofNat, Nat.mod_eq_of_lt (hp.trans (by decide))]
  refine ⟨_, hexec, ⟨keepsSystem_trans hwritten.advances.system
      (Harmless.refl _).setFlags.advanceDraws.system, hwritten.advances.pc⟩, congrArg (· + 2) hwritten.draws,
    writes_writeResolved hea hn, ?_⟩
  rw [← hold]
  exact decimalFlags_flagsBcd hp _ _ _

end

theorem decimal_eq (op : ExtOp) {form : RxForm} {ry rx : RegNo} {s s₁ : State}
    (h₁ : s₁ = afterLocate (pairEA form ry) .b s) :
    decimal op form ry rx s
      = .next (writeDecimal (locate (pairEA form rx) .b s₁)
          (decimalResult op (operand (pairEA form ry) .b s) (operand (pairEA form rx) .b s₁) s.sr.ccr.x)
          (afterLocate (pairEA form rx) .b s₁)) := by
  have hsr : s₁.sr = s.sr := h₁ ▸ afterLocate_sr ..
  rw [decimal, withPair_eq _ h₁]
  simp only [readOp_afterLocate, afterLocate_sr, hsr]
  rfl

theorem exec_nbcd (ea : EA) (s : State) :
    exec (.nbcd ea) s = .next (writeDecimal (locate ea .b s)
      (bcdSub (operand ea .b s).toNat 0 s.sr.ccr.x) (afterLocate ea .b s)) := by
  show negateDecimal ea s = _
  simp only [negateDecimal, withOperand, readOp_afterLocate, afterLocate_sr]
  rfl

/-- Settles O40: the operands are bytes, on which the model's algorithm is R265's. -/
theorem decimalInstructionsWriteTheirByte : Obligations.DecimalInstructionsWriteTheirByte := by
  intro s
  refine ⟨fun form ry rx => ⟨_, afterSource_afterLocate (pairEA form ry) .b s, ?abcd, ?sbcd⟩, fun ea hwf => ?nbcd⟩
  case abcd =>
    have hp := bcdAdds_bcdAdd _ _ s.sr.ccr.x (operand_byte_lt (pairEA form ry) s fits_pairEA.wf)
      (operand_byte_lt (pairEA form rx) (afterLocate (pairEA form ry) .b s) fits_pairEA.wf)
    obtain ⟨t, ht⟩ := completes_writeDecimal (i := .abcd form ry rx) (decimal_eq .add rfl)
      (ordinary_afterPair rfl rfl) fits_pairEA (bcdAdds_lt hp) (congrArg StatusReg.ccr (afterLocate_sr ..))
    exact ⟨t, _, hp, ht⟩
  case sbcd =>
    have hp := bcdSubs_bcdSub _ _ s.sr.ccr.x (operand_byte_lt (pairEA form ry) s fits_pairEA.wf)
      (operand_byte_lt (pairEA form rx) (afterLocate (pairEA form ry) .b s) fits_pairEA.wf)
    obtain ⟨t, ht⟩ := completes_writeDecimal (i := .sbcd form ry rx) (decimal_eq .sub rfl)
      (ordinary_afterPair rfl rfl) fits_pairEA (bcdSubs_lt hp) (congrArg StatusReg.ccr (afterLocate_sr ..))
    exact ⟨t, _, hp, ht⟩
  case nbcd =>
    have hea : Fits .dataalt .b ea := hwf
    have hp := bcdSubs_bcdSub _ 0 s.sr.ccr.x (operand_byte_lt ea s hea.wf) (by decide)
    obtain ⟨t, ht⟩ := completes_writeDecimal (exec_nbcd ea s) (ordinary_afterLocate rfl) hea (bcdSubs_lt hp) rfl
    exact ⟨t, _, hp, ht⟩

/-! The arithmetic of two digits (R265): a decimal number counts its tens by sixteen. -/

/-- The digit pair of a number: its tens in the upper digit, which may pass 9 or be negative. -/
def digitPair (n : Int) : Int := 16 * (n / 10) + n % 10

/-- Below 100 the digit pair is two decimal digits, and stands for the number. -/
theorem validBcd_of_digitPair {r : Nat} {n : Int} (h0 : 0 ≤ n) (h : n < 100) (hr : (r : Int) = digitPair n) :
    ValidBcd r ∧ (bcdValue r : Int) = n := by
  simp only [digitPair, ValidBcd, bcdValue] at *
  omega

theorem lt_digitPair_iff (n : Int) : 0x99 < digitPair n ↔ 100 ≤ n := by
  rw [digitPair]
  omega

theorem digitPair_neg_iff (n : Int) : digitPair n < 0 ↔ n < 0 := by
  rw [digitPair]
  omega

/-- The last correction of an addition takes a hundred off where there is one. -/
theorem digitPair_corrected_add {n : Int} (h0 : 0 ≤ n) (h : n < 200) :
    (if 0x99 < digitPair n then digitPair n - 0xA0 else digitPair n) % 256 = digitPair (n % 100) := by
  by_cases hn : 100 ≤ n
  · rw [if_pos ((lt_digitPair_iff n).mpr hn), digitPair, digitPair]
    omega
  · rw [if_neg (mt (lt_digitPair_iff n).mp hn), digitPair, digitPair]
    omega

/-- The last correction of a subtraction adds a hundred where it went below zero. -/
theorem digitPair_corrected_sub {n : Int} (h0 : -100 ≤ n) (h : n < 100) :
    (if digitPair n < 0 then digitPair n + 0xA0 else digitPair n) % 256 = digitPair (n % 100) := by
  by_cases hn : n < 0
  · rw [if_pos ((digitPair_neg_iff n).mpr hn), digitPair, digitPair]
    omega
  · rw [if_neg (mt (digitPair_neg_iff n).mp hn), digitPair, digitPair]
    omega

section
variable {a b : Nat} {x : Bool} (ha : ValidBcd a) (hb : ValidBcd b)
include ha hb

/-- The correction by 6 makes the carry of the low digits a sixteen. -/
theorem bcdAddTotal_eq_digitPair :
    bcdAddTotal a b x = digitPair ((bcdValue b + bcdValue a + x.toNat : Nat) : Int) := by
  obtain ⟨hal, hah⟩ := ha
  obtain ⟨hbl, hbh⟩ := hb
  have hx := Bool.toNat_le x
  simp only [bcdAddTotal, bcdLowSum, low_digit, high_digit a (by omega), high_digit b (by omega), digitPair, bcdValue]
  omega

/-- The correction by 6 makes the borrow of the low digits a sixteen. -/
theorem bcdSubTotal_eq_digitPair :
    bcdSubTotal a b x = digitPair ((bcdValue b : Int) - bcdValue a - x.toNat) := by
  obtain ⟨hal, hah⟩ := ha
  obtain ⟨hbl, hbh⟩ := hb
  have hx := Bool.toNat_le x
  simp only [bcdSubTotal, bcdLowDifference, low_digit, high_digit a (by omega), high_digit b (by omega), digitPair,
    bcdValue]
  omega

theorem bcdValue_lt : a < 256 ∧ b < 256 ∧ bcdValue a < 100 ∧ bcdValue b < 100 := by
  simp only [ValidBcd, bcdValue] at *
  omega

end

/-- Settles O41: the totals of the algorithm are the digit pairs of the sum and of the difference, and the last
correction takes them modulo 100. -/
theorem decimalOperationsAreDecimal : Obligations.DecimalOperationsAreDecimal := by
  intro a b x ha hb
  obtain ⟨hab, hbb, hav, hbv⟩ := bcdValue_lt ha hb
  have hx := Bool.toNat_le x
  constructor
  · obtain ⟨hc, hr⟩ := bcdAdds_bcdAdd a b x hab hbb
    rw [bcdAddTotal_eq_digitPair ha hb] at hc hr
    obtain ⟨hvalid, hvalue⟩ := validBcd_of_digitPair (by omega) (by omega)
      (hr.trans (digitPair_corrected_add (by omega) (by omega)))
    refine ⟨hvalid, Nat.cast_injective hvalue, hc.trans ?_⟩
    rw [lt_digitPair_iff]
    exact Nat.cast_le
  · obtain ⟨hc, hr⟩ := bcdSubs_bcdSub a b x hab hbb
    rw [bcdSubTotal_eq_digitPair ha hb] at hc hr
    obtain ⟨hvalid, hvalue⟩ := validBcd_of_digitPair (by omega) (by omega)
      (hr.trans (digitPair_corrected_sub (by omega) (by omega)))
    refine ⟨hvalid, hvalue, hc.trans ?_⟩
    rw [digitPair_neg_iff]
    omega

end Sys2Proof.Proofs
end

section
/-! Logic (R281 to R289), the condition codes as an operand (R283, R286, R289, R350, R352) and the bit instructions
(R301 to R305): O12, O43, O47. -/

namespace Sys2Proof.Proofs

open Sys2Proof.Machine Sys2Proof.Claims Sys2Proof.Laws

/-! MOVE to CCR, the CCR immediates and MOVE from SR (R283, R286, R289, R350, R352). -/

section
variable {i : Instr} {ea : EA} {s : State}

theorem ccrIs_ofByte (b : Byte) : CcrIs b.toNat (Flags.ofByte b) := ⟨rfl, rfl, rfl, rfl, rfl⟩

/-- The low byte of a long holds its bits 4 to 0. -/
theorem ccrIs_ofByte_setWidth (v : Long) : CcrIs v.toNat (Flags.ofByte (v.setWidth 8)) := by
  simp only [CcrIs, Flags.ofByte, BitVec.getLsbD_setWidth]
  exact ⟨rfl, rfl, rfl, rfl, rfl⟩

theorem exec_moveToCcr (ea : EA) (s : State) : exec (.moveToCcr ea) s
    = .next ((afterLocate ea .w s).setFlags (Flags.ofByte ((operand ea .w s).setWidth 8))) := by
  show loadCcr ea s = _
  simp only [loadCcr, withSource, readOp_afterLocate]
  rfl

theorem exec_moveFromSr (ea : EA) (s : State) :
    exec (.moveFromSr ea) s = .next (writeResolved ea .w (s.sr.toWord.setWidth 32) s) := by
  show storeSr ea s = _
  simp only [storeSr, withOperand, afterLocate_sr]
  rfl

/-- An immediate form on the condition codes, with the number of the byte it writes. -/
theorem completes_ccrImmediate {f : Byte → Byte} {n : Nat} (hexec : exec i s = ccrImmediate f s)
    (hlen : i.length = 2) (hn : (f s.sr.ccr.toByte).toNat = n) :
    ∃ t, exec i s = .next t ∧ Ordinary i s t ∧ KeepsD s t ∧ KeepsA s t ∧ KeepsMemory s t ∧ CcrIs n t.sr.ccr := by
  subst hn
  exact ⟨_, hexec, ordinary_of_harmless (Harmless.refl s).consume.setFlags rfl (k := 1) hlen rfl, fun _ => rfl,
    fun _ => rfl, ⟨fun _ => rfl, rfl⟩, ccrIs_ofByte _⟩

end

/-- Settles O12: MOVE to CCR ends in `setFlags` with its operand read, the immediate forms after their own word;
MOVE from SR writes its resolved operand and no flag. -/
theorem conditionCodesAreReadAndWritten : Obligations.ConditionCodesAreReadAndWritten := by
  intro s
  refine ⟨fun ea => ?moveToCcr, fun imm => ?andi, fun imm => ?ori, fun imm => ?eori, fun ea hwf => ?moveFromSr⟩
  case moveToCcr =>
    exact completes_setFlags (exec_moveToCcr ea s) (ordinary_afterLocate rfl) (ccrIs_ofByte_setWidth _)
  case andi => exact completes_ccrImmediate (f := (· &&& imm)) rfl rfl (BitVec.toNat_and ..)
  case ori => exact completes_ccrImmediate (f := (· ||| imm)) rfl rfl (BitVec.toNat_or ..)
  case eori => exact completes_ccrImmediate (f := (· ^^^ imm)) rfl rfl (BitVec.toNat_xor ..)
  case moveFromSr =>
    have hword : (s.sr.toWord.setWidth 32).toNat = s.sr.toWord.toNat := BitVec.toNat_setWidth_of_le (by decide)
    exact ⟨_, exec_moveFromSr ea s, ordinary_writeResolved rfl, writeResolved_ccr,
      writes_writeResolved hwf (congrArg (· % _) hword)⟩

/-! AND, OR and EOR (R281, R282, R284, R285, R287, R288). -/

/-- The operation of the model that a logic operation on numbers stands for. -/
def logicAlu : LogicOp → AluOp
  | .and => .and
  | .or => .or
  | .eor => .eor

section
variable (op : LogicOp) (sz : Size)

theorem logicOp_apply_comm (a b : Nat) : op.apply a b = op.apply b a := by
  cases op with
  | and => exact Nat.land_comm a b
  | or => exact Nat.lor_comm a b
  | eor => exact Nat.xor_comm a b

/-- A logic operation works on each bit alone, so on the size's bits alone. -/
theorem logicOp_apply_mod (a b : Nat) : op.apply (a % 2 ^ sizeBits sz) (b % 2 ^ sizeBits sz)
    = op.apply a b % 2 ^ sizeBits sz := by
  cases op with
  | and => exact Nat.and_mod_two_pow.symm
  | or => exact Nat.or_mod_two_pow.symm
  | eor => exact Nat.xor_mod_two_pow.symm

theorem aluResult_logic_toNat (src dst : Long) :
    (aluResult (logicAlu op) sz src dst).toNat = op.apply dst.toNat src.toNat := by
  cases op with
  | and => exact BitVec.toNat_and ..
  | or => exact BitVec.toNat_or ..
  | eor => exact BitVec.toNat_xor ..

theorem aluFlags_logic (old : Flags) (src dst : Long) :
    aluFlags (logicAlu op) old sz src dst = flagsLogic old sz (aluResult (logicAlu op) sz src dst) := by
  cases op <;> rfl

end

section
variable {op : LogicOp} {sz : Size} {src dst a b : Long} (ha : uval sz dst = uval sz a) (hb : uval sz src = uval sz b)
include ha hb

theorem aluResult_logic_mod : (aluResult (logicAlu op) sz src dst).toNat % 2 ^ sizeBits sz
    = op.apply (uval sz a) (uval sz b) % 2 ^ sizeBits sz := by
  rw [aluResult_logic_toNat, ← ha, ← hb, uval, uval, logicOp_apply_mod, Nat.mod_mod]

theorem logicFlags_aluFlags (old : Flags) :
    LogicFlags sz (op.apply (uval sz a) (uval sz b)) old (aluFlags (logicAlu op) old sz src dst) := by
  rw [aluFlags_logic]
  exact logicFlags_congr (aluResult_logic_mod ha hb) (logicFlags_flagsLogic ..)

end

section
variable {op : LogicOp} {i : Instr} {sz : Size} {ea : EA} {s : State}

/-- A logic operation into a data register. -/
theorem completes_logicToReg {dn : RegNo} (hexec : exec i s = aluToReg (logicAlu op) sz ea dn s)
    (hlen : i.length = 1 + ea.words sz) :
    ∃ t, exec i s = .next t ∧ Ordinary i s t ∧ (∀ q, t.areg q = movedA ea sz s q) ∧ KeepsMemory s t
      ∧ WritesD sz dn (op.apply (uval sz (operand ea sz s)) (uval sz (s.dreg dn))) s t
      ∧ LogicFlags sz (op.apply (uval sz (operand ea sz s)) (uval sz (s.dreg dn))) s.sr.ccr t.sr.ccr := by
  have hd := uval_trunc sz (s.dreg dn)
  rw [logicOp_apply_comm]
  exact completes_mergeD (hexec.trans (aluToReg_eq ..)) hlen (aluResult_logic_mod hd rfl)
    (logicFlags_aluFlags hd rfl _)

/-- A logic operation on a resolved operand, `v` and `src` agreeing at the size. -/
theorem completes_logic {src v : Long} {u : State} {old : Flags} (hsrc : uval sz v = uval sz src)
    (hord : Ordinary i s (afterLocate ea sz u)) (hea : Fits .dataalt sz ea)
    (hexec : exec i s = .next ((writeResolved ea sz (aluResult (logicAlu op) sz v (operand ea sz u)) u).setFlags
      (aluFlags (logicAlu op) old sz v (operand ea sz u)))) :
    ∃ t, exec i s = .next t ∧ Ordinary i s t
      ∧ Writes ea sz (op.apply (uval sz (operand ea sz u)) (uval sz src)) u t
      ∧ LogicFlags sz (op.apply (uval sz (operand ea sz u)) (uval sz src)) old t.sr.ccr :=
  completes_writeResolved hexec hord hea (aluResult_logic_mod rfl hsrc) (logicFlags_aluFlags rfl hsrc old)

theorem completes_logicToEa {dn : RegNo} (hexec : exec i s = aluToEa (logicAlu op) sz dn ea s)
    (hlen : i.length = 1 + ea.words sz) (hea : Fits .dataalt sz ea) :
    ∃ t, exec i s = .next t ∧ Ordinary i s t
      ∧ Writes ea sz (op.apply (uval sz (operand ea sz s)) (uval sz (s.dreg dn))) s t
      ∧ LogicFlags sz (op.apply (uval sz (operand ea sz s)) (uval sz (s.dreg dn))) s.sr.ccr t.sr.ccr :=
  completes_logic (uval_trunc ..) (ordinary_afterLocate hlen) hea (hexec.trans (aluToEa_eq ..))

theorem completes_logicImm {v : Long} (hexec : exec i s = aluImm (logicAlu op) sz (trunc sz v) ea s)
    (hlen : i.length = 1 + (immediateWords sz + ea.words sz)) (hea : Fits .dataalt sz ea) :
    ∃ t, exec i s = .next t ∧ Ordinary i s t
      ∧ Writes ea sz (op.apply (uval sz (operand ea sz (s.consume (immediateWords sz)))) (uval sz v))
          (s.consume (immediateWords sz)) t
      ∧ LogicFlags sz (op.apply (uval sz (operand ea sz (s.consume (immediateWords sz)))) (uval sz v))
          s.sr.ccr t.sr.ccr :=
  completes_logic (uval_trunc ..) (ordinary_afterImmediate hlen) hea (hexec.trans (aluImm_eq ..))

end

section
variable (sz : Size) (ea : EA) (s : State)

theorem exec_logicEaDn (dn : RegNo) :
    exec (andEaDn sz ea dn) s = aluToReg .and sz ea dn s ∧ exec (orEaDn sz ea dn) s = aluToReg .or sz ea dn s := by
  cases sz <;> exact ⟨rfl, rfl⟩

theorem exec_logicDnEa (dn : RegNo) :
    exec (andDnEa sz dn ea) s = aluToEa .and sz dn ea s ∧ exec (orDnEa sz dn ea) s = aluToEa .or sz dn ea s
    ∧ exec (eorDnEa sz dn ea) s = aluToEa .eor sz dn ea s := by
  cases sz <;> exact ⟨rfl, rfl, rfl⟩

/-- The immediate forms operate with the low bits of their long (R107). -/
theorem exec_logicImm (v : Long) :
    exec (andi sz v ea) s = aluImm .and sz (trunc sz v) ea s
    ∧ exec (ori sz v ea) s = aluImm .or sz (trunc sz v) ea s
    ∧ exec (eori sz v ea) s = aluImm .eor sz (trunc sz v) ea s := by
  cases sz with
  | b =>
    rw [← setWidth_byte]
    exact ⟨rfl, rfl, rfl⟩
  | w =>
    rw [← setWidth_word]
    exact ⟨rfl, rfl, rfl⟩
  | l =>
    rw [trunc_l_eq]
    exact ⟨rfl, rfl, rfl⟩

theorem logicRegister_length (dn : RegNo) :
    (andEaDn sz ea dn).length = 1 + ea.words sz ∧ (orEaDn sz ea dn).length = 1 + ea.words sz
    ∧ (andDnEa sz dn ea).length = 1 + ea.words sz ∧ (orDnEa sz dn ea).length = 1 + ea.words sz
    ∧ (eorDnEa sz dn ea).length = 1 + ea.words sz := by
  cases sz <;> exact ⟨rfl, rfl, rfl, rfl, rfl⟩

theorem logicImmediate_length (v : Long) :
    (andi sz v ea).length = 1 + (immediateWords sz + ea.words sz)
    ∧ (ori sz v ea).length = 1 + (immediateWords sz + ea.words sz)
    ∧ (eori sz v ea).length = 1 + (immediateWords sz + ea.words sz) := by
  rw [← Nat.add_assoc]
  cases sz <;> exact ⟨rfl, rfl, rfl⟩

variable {sz ea} {band : HostBand}

theorem fits_of_wf_andDnEa {dn : RegNo} (h : (andDnEa sz dn ea).wf band = true) : Fits .memalt sz ea := by
  cases sz <;> exact h

theorem fits_of_wf_orDnEa {dn : RegNo} (h : (orDnEa sz dn ea).wf band = true) : Fits .memalt sz ea := by
  cases sz <;> exact h

theorem fits_of_wf_eorDnEa {dn : RegNo} (h : (eorDnEa sz dn ea).wf band = true) : Fits .dataalt sz ea := by
  cases sz <;> exact h

theorem fits_of_wf_andi {v : Long} (h : (andi sz v ea).wf band = true) : Fits .dataalt sz ea := by
  cases sz <;> exact h

theorem fits_of_wf_ori {v : Long} (h : (ori sz v ea).wf band = true) : Fits .dataalt sz ea := by
  cases sz <;> exact h

theorem fits_of_wf_eori {v : Long} (h : (eori sz v ea).wf band = true) : Fits .dataalt sz ea := by
  cases sz <;> exact h

end

/-- Settles O43: the operation on the operands' numbers is that on their bits; the form into a register writes its
low bits, the others write the resolved operand, the immediate forms after their own words. -/
theorem logicInstructionsWriteTheirResult : Obligations.LogicInstructionsWriteTheirResult := by
  intro op sz ea s
  refine ⟨fun dn hop _ => ?toReg, fun dn hwf => ?toEa, fun v hwf => ?imm⟩
  case toReg =>
    obtain ⟨hand, hor⟩ := exec_logicEaDn sz ea s dn
    obtain ⟨hlenAnd, hlenOr, -⟩ := logicRegister_length sz ea dn
    cases op with
    | and => exact completes_logicToReg hand hlenAnd
    | or => exact completes_logicToReg hor hlenOr
    | eor => exact absurd rfl hop
  case toEa =>
    obtain ⟨hand, hor, heor⟩ := exec_logicDnEa sz ea s dn
    obtain ⟨-, -, hlenAnd, hlenOr, hlenEor⟩ := logicRegister_length sz ea dn
    cases op with
    | and => exact completes_logicToEa hand hlenAnd (fits_of_wf_andDnEa hwf).dataalt_of_memalt
    | or => exact completes_logicToEa hor hlenOr (fits_of_wf_orDnEa hwf).dataalt_of_memalt
    | eor => exact completes_logicToEa heor hlenEor (fits_of_wf_eorDnEa hwf)
  case imm =>
    obtain ⟨hand, hor, heor⟩ := exec_logicImm sz ea s v
    obtain ⟨hlenAnd, hlenOr, hlenEor⟩ := logicImmediate_length sz ea v
    cases op with
    | and => exact completes_logicImm hand hlenAnd (fits_of_wf_andi hwf)
    | or => exact completes_logicImm hor hlenOr (fits_of_wf_ori hwf)
    | eor => exact completes_logicImm heor hlenEor (fits_of_wf_eori hwf)

/-! BTST, BCHG, BCLR and BSET (R301 to R305). -/

section
variable (op : BitOp) (ea : EA) (s : State)

/-- A bit instruction is one operation on a resolved operand of its size. -/
theorem bitOperate_eq (b : Nat) :
    bitOperate op b ea s = .next (bitApply op (bitSize ea) (b % sizeBits (bitSize ea)) (locate ea (bitSize ea) s)
      (afterLocate ea (bitSize ea) s)) := by
  cases ea <;> rfl

theorem words_bitSize : ea.words (bitSize ea) = ea.words .b := by cases ea <;> rfl

theorem movedA_bitSize (q : RegNo) : movedA ea (bitSize ea) s q = movedA ea .b s q := by cases ea <;> rfl

theorem exec_bitRegI (dn : RegNo) : exec (bitRegI op dn ea) s = bitOperate op (s.dreg dn).toNat ea s := by
  cases op <;> rfl

theorem exec_bitImmI (b : Byte) : exec (bitImmI op b ea) s = bitOperate op b.toNat ea (s.consume 1) := by
  cases op <;> rfl

theorem bitRegI_length (dn : RegNo) : (bitRegI op dn ea).length = 1 + ea.words (bitSize ea) := by
  rw [words_bitSize]
  cases op <;> rfl

theorem bitImmI_length (b : Byte) : (bitImmI op b ea).length = 1 + (1 + ea.words (bitSize ea)) := by
  rw [words_bitSize, ← Nat.add_assoc]
  cases op <;> rfl

end

section
variable {op : BitOp} {ea : EA} {band : HostBand}

theorem fits_bitSize (h : Fits .dataalt .b ea) : Fits .dataalt (bitSize ea) ea := by
  cases ea with
  | dn => rfl
  | _ => exact h

theorem fits_of_wf_bitRegI {dn : RegNo} (h : (bitRegI op dn ea).wf band = true) (hop : op ≠ .tst) :
    Fits .dataalt (bitSize ea) ea := by
  cases op with
  | tst => exact absurd rfl hop
  | chg | clr | set => exact fits_bitSize h

theorem fits_of_wf_bitImmI {b : Byte} (h : (bitImmI op b ea).wf band = true) (hop : op ≠ .tst) :
    Fits .dataalt (bitSize ea) ea := by
  cases op with
  | tst => exact absurd rfl hop
  | chg | clr | set => exact fits_bitSize h

end

/-- A bit inside a size is a bit of the size's number. -/
theorem uval_testBit {sz : Size} {k : Nat} (hk : k < sizeBits sz) (v : Long) : (uval sz v).testBit k = v.getLsbD k := by
  rw [uval, Nat.testBit_mod_two_pow, decide_eq_true hk, Bool.true_and]
  rfl

/-- The mask of a bit instruction holds its bit alone. -/
theorem getLsbD_bitMask {k : Nat} (hk : k < 32) (j : Nat) : (1#32 <<< k).getLsbD j = decide (j = k) := by
  rw [← BitVec.twoPow_eq, BitVec.getLsbD_twoPow, decide_eq_true hk, Bool.true_and]
  exact decide_eq_decide.mpr eq_comm

/-- The changed value bit by bit (R301). -/
theorem getLsbD_bitChanged (op : BitOp) {k : Nat} (hk : k < 32) (v : Long) (j : Nat) :
    (bitChanged op k v).getLsbD j =
      if j = k then
        match op with
        | .tst => v.getLsbD j
        | .chg => !v.getLsbD j
        | .clr => false
        | .set => true
      else v.getLsbD j := by
  cases op with
  | tst => exact (ite_self _).symm
  | chg =>
    rw [bitChanged, BitVec.getLsbD_xor, getLsbD_bitMask hk]
    split <;> simp [*]
  | clr =>
    rw [bitChanged, BitVec.getLsbD_and, BitVec.getLsbD_not, getLsbD_bitMask hk]
    split
    · simp [*]
    · by_cases hj : j < 32
      · simp [*]
      · simp [BitVec.getLsbD_of_ge v j (Nat.le_of_not_lt hj)]
  | set =>
    rw [bitChanged, BitVec.getLsbD_or, getLsbD_bitMask hk]
    split <;> simp [*]

theorem bitWritten_bitChanged (op : BitOp) {k : Nat} (hk : k < 32) (v : Long) :
    BitWritten op k v.toNat (bitChanged op k v).toNat := getLsbD_bitChanged op hk v

section
variable {op : BitOp} {ea : EA} {b : Nat} {i : Instr} {s u : State}

theorem bitApply_tst (sz : Size) (k : Nat) (ea : EA) (s : State) :
    bitApply .tst sz k (locate ea sz s) (afterLocate ea sz s)
      = (afterLocate ea sz s).setFlags (bitFlags s.sr.ccr k (operand ea sz s)) := by
  simp only [bitApply, if_true, readOp_afterLocate, afterLocate_sr]
  rfl

theorem bitApply_resolved (hop : op ≠ .tst) (sz : Size) (k : Nat) (ea : EA) (s : State) :
    bitApply op sz k (locate ea sz s) (afterLocate ea sz s)
      = (writeResolved ea sz (bitChanged op k (operand ea sz s)) s).setFlags
          (bitFlags s.sr.ccr k (operand ea sz s)) := by
  simp only [bitApply, if_neg hop, readOp_afterLocate, afterLocate_sr]
  rfl

theorem bitNumber_lt (b : Nat) (sz : Size) : b % sizeBits sz < sizeBits sz :=
  Nat.mod_lt _ (by cases sz <;> decide)

/-- A bit instruction through a resolved operand. -/
theorem completes_bitOperate (hexec : exec i s = bitOperate op b ea u)
    (hord : Ordinary i s (afterLocate ea (bitSize ea) u)) (hea : op ≠ .tst → Fits .dataalt (bitSize ea) ea) :
    ∃ t, exec i s = .next t ∧ Ordinary i s t ∧ BitDone op b ea u t := by
  have hk := bitNumber_lt b (bitSize ea)
  rw [hexec, bitOperate_eq]
  have hz := uval_testBit hk (operand ea (bitSize ea) u)
  by_cases hop : op = .tst
  · subst hop
    rw [bitApply_tst]
    obtain ⟨-, -, d, a, mem, -⟩ := afterSource_afterLocate ea (bitSize ea) u
    refine ⟨_, rfl, ordinary_setFlags hord _, ?_, fun _ => ⟨d, fun q => ?_, mem⟩, fun h => absurd rfl h⟩
    · rw [hz]
      rfl
    · exact (a q).trans (movedA_bitSize ea u q)
  · have hfits := hea hop
    rw [bitApply_resolved hop]
    refine ⟨_, rfl, ordinary_setFlags (ordinary_writeOp hord _ _) _, ?_, fun h => absurd h hop, fun _ => ⟨_, ?_,
      writes_setFlags (writes_writeResolved hfits rfl) _⟩⟩
    · rw [hz]
      rfl
    · rw [← operand_toNat hfits.wf]
      exact bitWritten_bitChanged op (hk.trans_le (by cases bitSize ea <;> decide)) _

end

/-- Settles O47: either form is one bit operation on a resolved operand, the immediate form after its own word. -/
theorem bitInstructionsTestAndChangeOneBit : Obligations.BitInstructionsTestAndChangeOneBit := by
  intro op ea s
  refine ⟨fun dn hwf => ?reg, fun b hwf => ?imm⟩
  case reg =>
    exact completes_bitOperate (exec_bitRegI ..) (ordinary_afterLocate (bitRegI_length ..)) (fits_of_wf_bitRegI hwf)
  case imm =>
    exact completes_bitOperate (exec_bitImmI ..) (ordinary_afterImmediate (bitImmI_length ..)) (fits_of_wf_bitImmI hwf)

end Sys2Proof.Proofs
end

section
/-! The shifts and rotates as numbers: the step of R291, and the closed forms of R292 to R299, which start at the operand
and repeat that step. -/

namespace Sys2Proof.Proofs

open Sys2Proof.Machine Sys2Proof.Claims Sys2Proof.Laws

/-! One step on numbers (R291). -/

/-- The direction of a shift. -/
def shiftsLeft : ShiftOp → Bool
  | .asl | .lsl | .rol | .roxl => true
  | .asr | .lsr | .ror | .roxr => false

/-- The bit a step shifts out of an `n`-bit number. -/
def bitOut (op : ShiftOp) (n r : Nat) : Bool := r.testBit (if shiftsLeft op then n - 1 else 0)

/-- The bit a step shifts in. -/
def bitIn (op : ShiftOp) (n r : Nat) (x : Bool) : Bool :=
  match op with
  | .asl | .lsl | .lsr => false
  | .asr => r.testBit (n - 1)
  | .rol | .ror => bitOut op n r
  | .roxl | .roxr => x

/-- An `n`-bit number moved left by one, with a bit at the bottom. -/
def leftNat (n r : Nat) (b : Bool) : Nat := r * 2 % 2 ^ n + b.toNat

/-- An `n`-bit number moved right by one, with a bit at the top. -/
def rightNat (n r : Nat) (b : Bool) : Nat := r / 2 + b.toNat * 2 ^ (n - 1)

/-- The operand after a step. -/
def shiftNat (op : ShiftOp) (n r : Nat) (x : Bool) : Nat :=
  if shiftsLeft op then leftNat n r (bitIn op n r x) else rightNat n r (bitIn op n r x)

/-- The step of R291 on the result of a shift. -/
def shiftNext (op : ShiftOp) (n : Nat) (p : ShiftSpec) : ShiftSpec where
  r := shiftNat op n p.r p.x
  x := if op = .rol ∨ op = .ror then p.x else bitOut op n p.r
  c := bitOut op n p.r
  v := p.v || (decide (op = .asl) && (p.r.testBit (n - 1) != (shiftNat op n p.r p.x).testBit (n - 1)))

theorem testBit_eq_false_of_width_le {n d i : Nat} (hd : d < 2 ^ n) (hi : n ≤ i) : d.testBit i = false :=
  Nat.testBit_lt_two_pow (hd.trans_le (Nat.pow_le_pow_right Nat.two_pos hi))

section
variable {n r : Nat} {b : Bool} (hn : 0 < n)
include hn

theorem two_pow_eq_double : 2 ^ n = 2 * 2 ^ (n - 1) := (mul_pow_sub_one hn.ne' 2).symm

theorem leftNat_lt : leftNat n r b < 2 ^ n := by
  have hpow := two_pow_eq_double hn
  have hb := Bool.toNat_le b
  have hlt := Nat.mod_lt (r * 2) (Nat.two_pow_pos n)
  have heven : r * 2 % 2 ^ n % 2 = 0 := by
    rw [Nat.mod_mod_of_dvd _ (hpow ▸ Nat.dvd_mul_right ..), Nat.mul_mod_left]
  rw [leftNat]
  omega

theorem rightNat_lt (h : r < 2 ^ n) : rightNat n r b < 2 ^ n := by
  have hpow := two_pow_eq_double hn
  cases b <;> simp only [rightNat, Bool.toNat_false, Bool.toNat_true] <;> omega

theorem shiftNat_lt {op : ShiftOp} {x : Bool} (h : r < 2 ^ n) : shiftNat op n r x < 2 ^ n := by
  rw [shiftNat]
  split
  · exact leftNat_lt hn
  · exact rightNat_lt hn h

end

/-! The closed forms of the shifts (R292 to R295): none moves at the count zero, and one step leads from each count to
the next. -/

section
variable (n d c : Nat)

theorem shiftedLeft_succ : d * 2 ^ (c + 1) % 2 ^ n = leftNat n (d * 2 ^ c % 2 ^ n) false := by
  rw [leftNat, Nat.mod_mul_mod, pow_succ, Nat.mul_assoc]
  rfl

theorem shiftedRight_succ : d / 2 ^ (c + 1) = rightNat n (d / 2 ^ c) false := by
  rw [rightNat, Nat.div_div_eq_div_mul, pow_succ, Bool.toNat_false, Nat.zero_mul, Nat.add_zero]

variable {n d} (hn : 0 < n)
include hn

/-- The top bit after `c` steps to the left. -/
theorem shiftedLeft_top : (d * 2 ^ c % 2 ^ n).testBit (n - 1) = (decide (c < n) && d.testBit (n - 1 - c)) := by
  rw [Nat.testBit_mod_two_pow, Nat.testBit_mul_two_pow, decide_eq_true (Nat.sub_lt hn Nat.one_pos), Bool.true_and]
  congr 1
  exact decide_eq_decide.mpr (by omega)

theorem leftOut_succ : leftOut n d (c + 1) = (d * 2 ^ c % 2 ^ n).testBit (n - 1) := by
  rw [shiftedLeft_top c hn, leftOut, Nat.sub_sub, Nat.add_comm 1 c, decide_eq_true (Nat.le_add_left 1 c),
    Bool.true_and]
  rfl

variable (hd : d < 2 ^ n)
include hd

theorem signChanges_zero : signChanges n d 0 = false := by
  have hpow := two_pow_eq_double hn
  have hlt : d / 2 ^ (n - 1) < 2 := Nat.div_lt_of_lt_mul (by omega)
  rw [signChanges, if_pos hn, Nat.sub_zero]
  generalize d / 2 ^ (n - 1) = q at hlt
  interval_cases q <;> rfl

/-- The top bits differ among themselves when they did before, or when the last of them differs from its
neighbour. -/
theorem signChanges_succ : signChanges n d (c + 1)
    = (signChanges n d c || ((d * 2 ^ c % 2 ^ n).testBit (n - 1) != (d * 2 ^ (c + 1) % 2 ^ n).testBit (n - 1))) := by
  have hpow : 2 ^ (c + 1) = 2 * 2 ^ c := pow_succ' 2 c
  have hpos : 0 < 2 ^ c := Nat.two_pow_pos c
  rw [shiftedLeft_top c hn, shiftedLeft_top (c + 1) hn]
  rcases lt_trichotomy (c + 1) n with h | h | h
  · -- The top `c + 1` bits are half of the top `c + 2`.
    have hc : c < n := by omega
    have hq : d / 2 ^ (n - 1 - c) = d / 2 ^ (n - 1 - (c + 1)) / 2 := by
      rw [Nat.div_div_eq_div_mul, ← pow_succ]
      congr 2
      omega
    have hpow' : 2 ^ (c + 1 + 1) = 2 * 2 ^ (c + 1) := pow_succ' 2 (c + 1)
    simp only [signChanges, h, hc, if_true, decide_true, Bool.true_and, Nat.testBit_eq_decide_div_mod_eq, hq]
    rw [Bool.eq_iff_iff]
    simp only [Bool.and_eq_true, Bool.or_eq_true, decide_eq_true_eq, bne_iff_ne, ne_eq, decide_eq_decide]
    omega
  · -- The last bit has no neighbour left: it is compared with the zero shifted in.
    subst h
    simp only [signChanges, Nat.lt_irrefl, Nat.lt_succ_self, if_true, if_false, decide_true, decide_false, Bool.true_and,
      Bool.false_and, Nat.add_sub_cancel, Nat.sub_self, pow_zero, Nat.div_one, Nat.testBit_zero]
    rw [Bool.eq_iff_iff]
    simp only [Bool.and_eq_true, Bool.or_eq_true, decide_eq_true_eq, bne_iff_ne, ne_eq, decide_eq_false_iff_not]
    omega
  · -- Every bit is shifted out.
    have hc : ¬ c < n := by omega
    have hc' : ¬ c + 1 < n := by omega
    simp only [signChanges, hc, hc', if_false, decide_false, Bool.false_and, bne_self_eq_false, Bool.or_false]

theorem testBit_top : d.testBit (n - 1) = decide (2 ^ (n - 1) ≤ d) := by
  by_cases h : 2 ^ (n - 1) ≤ d
  · rw [decide_eq_true h, Nat.testBit_of_two_pow_le_and_two_pow_add_one_gt h (by rwa [Nat.sub_add_cancel hn])]
  · rw [decide_eq_false h, Nat.testBit_lt_two_pow (Nat.lt_of_not_le h)]

end

theorem int_two_pow (n : Nat) : (2 : Int) ^ n = (2 ^ n : Nat) := (Nat.cast_pow 2 n).symm

/-- An integer in the signed range, modulo `2^n`. -/
theorem toNat_emod_two_pow {n : Nat} {z : Int} (hn : 0 < n) (hlo : -((2 ^ (n - 1) : Nat) : Int) ≤ z)
    (hhi : z < (2 ^ (n - 1) : Nat)) : (z % 2 ^ n).toNat = (if z < 0 then z + (2 ^ n : Nat) else z).toNat := by
  have hpow := two_pow_eq_double hn
  rw [int_two_pow n]
  split
  · rw [← Int.add_emod_right, Int.emod_eq_of_lt (by omega) (by omega)]
  · rw [Int.emod_eq_of_lt (by omega) (by omega)]

/-- The result of ASR (R293). -/
def asrNat (n d c : Nat) : Nat := (signedNat n d / 2 ^ c % 2 ^ n).toNat

section
variable {n d : Nat} (hn : 0 < n) (hd : d < 2 ^ n) (c : Nat)
include hn hd

theorem signedNat_bounds : -((2 ^ (n - 1) : Nat) : Int) ≤ signedNat n d ∧ signedNat n d < (2 ^ (n - 1) : Nat) := by
  have hpow := two_pow_eq_double hn
  rw [signedNat, int_two_pow n]
  omega

/-- A signed number of `n` bits stays one when it is divided (R293). -/
theorem signedNat_div_bounds : -((2 ^ (n - 1) : Nat) : Int) ≤ signedNat n d / 2 ^ c
    ∧ signedNat n d / 2 ^ c < (2 ^ (n - 1) : Nat) := by
  induction c with
  | zero => simpa only [pow_zero, Int.ediv_one] using signedNat_bounds hn hd
  | succ c ih =>
    rw [pow_succ, ← Int.ediv_ediv_of_nonneg (by positivity)]
    omega

theorem asrNat_zero : asrNat n d 0 = d := by
  have hpow := two_pow_eq_double hn
  obtain ⟨hlo, hhi⟩ := signedNat_bounds hn hd
  rw [asrNat, pow_zero, Int.ediv_one, toNat_emod_two_pow hn hlo hhi, signedNat, int_two_pow n]
  omega

omit hn hd in
theorem asrNat_lt : asrNat n d c < 2 ^ n := by
  have hlt : _ < ((2 ^ n : Nat) : Int) :=
    Int.emod_lt_of_pos (signedNat n d / 2 ^ c) (Int.natCast_pos.mpr (Nat.two_pow_pos n))
  have hpos := Nat.two_pow_pos n
  rw [asrNat, int_two_pow n]
  omega

/-- Halving a signed number moves its bits right and repeats the sign bit. -/
theorem asrNat_succ : asrNat n d (c + 1) = rightNat n (asrNat n d c) ((asrNat n d c).testBit (n - 1)) := by
  have hpow := two_pow_eq_double hn
  obtain ⟨hlo, hhi⟩ := signedNat_div_bounds hn hd c
  obtain ⟨hlo', hhi'⟩ := signedNat_div_bounds hn hd (c + 1)
  have hhalf : signedNat n d / 2 ^ (c + 1) = signedNat n d / 2 ^ c / 2 := by
    rw [pow_succ, Int.ediv_ediv_of_nonneg (by positivity)]
  rw [testBit_top hn (asrNat_lt c), rightNat, asrNat, asrNat, toNat_emod_two_pow hn hlo hhi,
    toNat_emod_two_pow hn hlo' hhi', hhalf]
  generalize signedNat n d / 2 ^ c = z at hlo hhi
  by_cases hz : z < 0
  · rw [if_pos hz, if_pos (by omega), decide_eq_true (by omega), Bool.toNat_true]
    omega
  · rw [if_neg hz, if_neg (by omega), decide_eq_false (by omega), Bool.toNat_false]
    omega

end

theorem testBit_rightNat {n r i : Nat} (hn : 0 < n) (h : r < 2 ^ n) (b : Bool) :
    (rightNat n r b).testBit i = if i < n - 1 then r.testBit (i + 1) else decide (i = n - 1) && b := by
  have hpow := two_pow_eq_double hn
  have hlt : r / 2 < 2 ^ (n - 1) := by omega
  rw [rightNat, Nat.add_comm, Nat.mul_comm, Nat.testBit_two_pow_mul_add _ hlt, Nat.testBit_div_two,
    Nat.testBit_bool_toNat]
  split
  · rfl
  · congr 1
    exact decide_eq_decide.mpr (by omega)

section
variable {n d : Nat} (hn : 0 < n) (hd : d < 2 ^ n) (c : Nat)
include hn hd

/-- After `c` steps to the right with the sign bit repeated, bit `i` is bit `i + c`, or the sign bit above the top. -/
theorem testBit_asrNat {i : Nat} (hi : i < n) : (asrNat n d c).testBit i = d.testBit (min (i + c) (n - 1)) := by
  induction c generalizing i with
  | zero => rw [asrNat_zero hn hd, Nat.add_zero, Nat.min_eq_left (Nat.le_sub_one_of_lt hi)]
  | succ c ih =>
    rw [asrNat_succ hn hd, testBit_rightNat hn (asrNat_lt c)]
    split
    · rw [ih (by omega), Nat.add_right_comm, Nat.add_assoc]
    · rw [ih (by omega), decide_eq_true (by omega), Bool.true_and]
      congr 1
      omega

/-- The bit that step `c + 1` of ASR shifts out. -/
theorem asrNat_bottom :
    (asrNat n d c).testBit 0 = if c + 1 ≤ n then d.testBit c else d.testBit (n - 1) := by
  rw [testBit_asrNat hn hd c hn, Nat.zero_add]
  split
  · rw [Nat.min_eq_left (by omega)]
  · rw [Nat.min_eq_right (by omega)]

end

/-! The closed forms of the rotates (R296 to R299): two rotations are one. -/

theorem rotlNat_zero {n d : Nat} (hd : d < 2 ^ n) : rotlNat n d 0 = d := by
  rw [rotlNat, pow_zero, Nat.mul_one, Nat.mod_eq_of_lt hd, Nat.sub_zero, Nat.div_eq_of_lt hd, Nat.add_zero]

theorem rotlNat_width (n d : Nat) : rotlNat n d n = d := by
  rw [rotlNat, Nat.mul_mod_left, Nat.sub_self, pow_zero, Nat.div_one, Nat.zero_add]

/-- Right by `k` is left by the rest of the width. -/
theorem rotrNat_eq_rotlNat {n k : Nat} (hk : k ≤ n) (d : Nat) : rotrNat n d k = rotlNat n d (n - k) := by
  rw [rotrNat, rotlNat, Nat.sub_sub_self hk, Nat.add_comm]

theorem testBit_rotlNat {n d k : Nat} (hd : d < 2 ^ n) (hk : k ≤ n) (i : Nat) :
    (rotlNat n d k).testBit i
      = if i < k then d.testBit (i + (n - k)) else decide (i < n) && d.testBit (i - k) := by
  have hpow : 2 ^ n = 2 ^ k * 2 ^ (n - k) := by rw [← pow_add, Nat.add_sub_cancel' hk]
  have hlt : d / 2 ^ (n - k) < 2 ^ k := Nat.div_lt_of_lt_mul (by rwa [Nat.mul_comm, ← hpow])
  have hhigh : d * 2 ^ k % 2 ^ n = 2 ^ k * (d % 2 ^ (n - k)) := by
    rw [hpow, Nat.mul_comm d, Nat.mul_mod_mul_left]
  rw [rotlNat, hhigh, Nat.testBit_two_pow_mul_add _ hlt, Nat.testBit_div_two_pow, Nat.testBit_mod_two_pow]
  split
  · rfl
  · congr 1
    exact decide_eq_decide.mpr (by omega)

section
variable {n d k : Nat} (hn : 0 < n) (hd : d < 2 ^ n)
include hd

theorem rotlNat_lt (hk : k ≤ n) : rotlNat n d k < 2 ^ n := by
  apply Nat.lt_pow_two_of_testBit
  intro i hi
  rw [testBit_rotlNat hd hk, if_neg (by omega), decide_eq_false (by omega), Bool.false_and]

theorem rotrNat_lt (hk : k ≤ n) : rotrNat n d k < 2 ^ n := by
  rw [rotrNat_eq_rotlNat hk]
  exact rotlNat_lt hd (Nat.sub_le n k)

include hn

/-- A rotation by one takes the top bit to the bottom. -/
theorem testBit_rotlNat_one (i : Nat) :
    (rotlNat n d 1).testBit i = if i = 0 then d.testBit (n - 1) else decide (i < n) && d.testBit (i - 1) := by
  rw [testBit_rotlNat hd hn]
  by_cases hi : i = 0
  · rw [if_pos hi, if_pos (by omega), hi, Nat.zero_add]
  · rw [if_neg hi, if_neg (by omega)]

theorem testBit_rotrNat_one (i : Nat) :
    (rotrNat n d 1).testBit i = if i < n - 1 then d.testBit (i + 1) else decide (i = n - 1) && d.testBit 0 := by
  rw [rotrNat_eq_rotlNat hn, testBit_rotlNat hd (Nat.sub_le n 1), Nat.sub_sub_self hn]
  split
  · rfl
  · by_cases hi : i = n - 1
    · rw [decide_eq_true hi, decide_eq_true (by omega), hi, Nat.sub_self]
    · rw [decide_eq_false hi, decide_eq_false (by omega), Bool.false_and, Bool.false_and]

theorem rotlNat_succ (hk : k < n) : rotlNat n d (k + 1) = rotlNat n (rotlNat n d k) 1 := by
  apply Nat.eq_of_testBit_eq
  intro i
  rw [testBit_rotlNat_one hn (rotlNat_lt hd hk.le), testBit_rotlNat hd hk, testBit_rotlNat hd hk.le,
    testBit_rotlNat hd hk.le]
  by_cases hi : i = 0
  · rw [if_pos hi, if_pos (by omega), if_neg (by omega), decide_eq_true (by omega), Bool.true_and]
    congr 1
    omega
  · rw [if_neg hi]
    by_cases hik : i < k + 1
    · rw [if_pos hik, if_pos (by omega), decide_eq_true (by omega), Bool.true_and]
      congr 1
      omega
    · have hsub : i - (k + 1) = i - 1 - k := by omega
      rw [if_neg hik, if_neg (by omega), hsub]
      by_cases hin : i < n
      · rw [decide_eq_true (by omega : i - 1 < n), Bool.true_and]
      · rw [decide_eq_false hin, Bool.false_and, Bool.false_and]

/-- A rotation by one to the right undoes one to the left. -/
theorem rotrNat_rotlNat_one : rotrNat n (rotlNat n d 1) 1 = d := by
  apply Nat.eq_of_testBit_eq
  intro i
  rw [testBit_rotrNat_one hn (rotlNat_lt hd hn), testBit_rotlNat_one hn hd, testBit_rotlNat_one hn hd,
    if_neg (Nat.succ_ne_zero i), if_pos rfl]
  split
  · rw [decide_eq_true (by omega), Bool.true_and, Nat.add_sub_cancel]
  · by_cases hi : i = n - 1
    · rw [decide_eq_true hi, Bool.true_and, hi]
    · rw [decide_eq_false hi, Bool.false_and, testBit_eq_false_of_width_le hd (by omega)]

theorem rotlNat_succ_mod (c : Nat) : rotlNat n d ((c + 1) % n) = rotlNat n (rotlNat n d (c % n)) 1 := by
  have hk := Nat.mod_lt c hn
  rw [← rotlNat_succ hn hd hk, ← Nat.mod_add_mod]
  by_cases h : c % n + 1 = n
  · rw [h, Nat.mod_self, rotlNat_zero hd, rotlNat_width]
  · rw [Nat.mod_eq_of_lt (by omega)]

theorem rotrNat_succ_mod (c : Nat) : rotrNat n d ((c + 1) % n) = rotrNat n (rotrNat n d (c % n)) 1 := by
  have hk := Nat.mod_lt c hn
  have hrest : n - c % n = n - (c % n + 1) + 1 := by omega
  rw [rotrNat_eq_rotlNat hk.le, hrest, rotlNat_succ hn hd (by omega), rotrNat_rotlNat_one hn (rotlNat_lt hd (by omega)),
    rotrNat_eq_rotlNat (Nat.mod_lt _ hn).le, ← Nat.mod_add_mod]
  by_cases h : c % n + 1 = n
  · rw [h, Nat.mod_self, Nat.sub_self, Nat.sub_zero, rotlNat_width, rotlNat_zero hd]
  · rw [Nat.mod_eq_of_lt (by omega)]

theorem rotlNat_one_eq_leftNat : rotlNat n d 1 = leftNat n d (d.testBit (n - 1)) := by
  have hpow := two_pow_eq_double hn
  have htop : d / 2 ^ (n - 1) < 2 := Nat.div_lt_of_lt_mul (by omega)
  rw [rotlNat, leftNat, Nat.toNat_testBit, Nat.mod_eq_of_lt htop, pow_one]

omit hd in
theorem rotrNat_one_eq_rightNat : rotrNat n d 1 = rightNat n d (d.testBit 0) := by
  rw [rotrNat, rightNat, Nat.toNat_testBit, pow_zero, Nat.div_one, two_pow_eq_double hn, Nat.mul_mod_mul_right, pow_one]

end

/-- The low `n` bits of a move of `n + 1` bits to the left. -/
theorem leftNat_mod {n : Nat} (hn : 0 < n) (w : Nat) (b : Bool) :
    leftNat (n + 1) w b % 2 ^ n = leftNat n (w % 2 ^ n) b := by
  have hdvd : 2 ^ n ∣ 2 ^ (n + 1) := Nat.pow_dvd_pow 2 (Nat.le_succ n)
  rw [← Nat.mod_eq_of_lt (leftNat_lt hn : leftNat n (w % 2 ^ n) b < 2 ^ n), leftNat, leftNat, Nat.mod_mul_mod,
    Nat.mod_add_mod, ← Nat.mod_add_mod, Nat.mod_mod_of_dvd _ hdvd, Nat.mod_add_mod]

/-- The upper bits of a move of `n + 1` bits to the right. -/
theorem rightNat_half {n : Nat} (hn : 0 < n) (w : Nat) (b : Bool) :
    rightNat (n + 1) w b / 2 = rightNat n (w / 2) b := by
  have hpow := two_pow_eq_double hn
  rw [rightNat, rightNat, Nat.add_sub_cancel, hpow, Nat.mul_left_comm, Nat.add_mul_div_left _ _ Nat.two_pos]

/-- A number with a bit above it (R298). -/
theorem extended_lt {n d : Nat} (hd : d < 2 ^ n) (x : Bool) : x.toNat * 2 ^ n + d < 2 ^ (n + 1) := by
  rw [pow_succ']
  cases x <;> simp only [Bool.toNat_false, Bool.toNat_true] <;> omega

/-! The closed forms start at the operand and repeat the step of R291. -/

section
variable {n d : Nat} (hn : 0 < n) (hd : d < 2 ^ n) (x : Bool)
include hn hd

theorem shiftSpec_zero (op : ShiftOp) :
    shiftSpec op n d 0 x = ⟨d, x, if op = .roxl ∨ op = .roxr then x else false, false⟩ := by
  have hleft : d * 2 ^ 0 % 2 ^ n = d := by rw [pow_zero, Nat.mul_one, Nat.mod_eq_of_lt hd]
  cases op with
  | asl =>
    rw [shiftSpec, aslSpec, hleft, signChanges_zero hn hd]
    rfl
  | lsl =>
    rw [shiftSpec, lslSpec, hleft]
    rfl
  | asr => exact congrArg (ShiftSpec.mk · x false false) (asrNat_zero hn hd)
  | lsr => exact congrArg (ShiftSpec.mk · x false false) (Nat.div_one d)
  | rol =>
    rw [shiftSpec, rolSpec, Nat.zero_mod, rotlNat_zero hd]
    rfl
  | ror =>
    rw [shiftSpec, rorSpec, Nat.zero_mod, rotrNat_eq_rotlNat (Nat.zero_le n), Nat.sub_zero, rotlNat_width]
    rfl
  | roxl =>
    have hx : (x.toNat * 2 ^ n + d).testBit n = x := by
      rw [Nat.mul_comm, Nat.testBit_two_pow_mul_add _ hd, if_neg (Nat.lt_irrefl n), Nat.sub_self, Nat.testBit_bool_toNat]
      exact Bool.true_and x
    rw [shiftSpec, roxlSpec, Nat.zero_mod, rotlNat_zero (extended_lt hd x), hx, Nat.mul_add_mod_self_right, Nat.mod_eq_of_lt hd]
    rfl
  | roxr =>
    have hhalf : (d * 2 + x.toNat) / 2 = d := by
      have hx := Bool.toNat_lt x
      omega
    have hx : (d * 2 + x.toNat).testBit 0 = x := by
      cases x <;> simp [Nat.testBit_zero]
    rw [shiftSpec, roxrSpec, Nat.zero_mod, rotrNat_eq_rotlNat (Nat.zero_le _), Nat.sub_zero, rotlNat_width, hhalf, hx]
    rfl

theorem aslSpec_succ (c : Nat) : aslSpec n d (c + 1) x = shiftNext .asl n (aslSpec n d c x) := by
  have hr := shiftedLeft_succ n d c
  have hc := leftOut_succ (d := d) c hn
  have hv := signChanges_succ c hn hd
  rw [hr] at hv
  rw [aslSpec, hr, hc, hv]
  rfl

omit hd in
theorem lslSpec_succ (c : Nat) : lslSpec n d (c + 1) x = shiftNext .lsl n (lslSpec n d c x) := by
  have hc := leftOut_succ (d := d) c hn
  rw [lslSpec, shiftedLeft_succ, hc]
  rfl

theorem asrSpec_succ (c : Nat) : asrSpec n d (c + 1) x = shiftNext .asr n (asrSpec n d c x) := by
  have hr : (signedNat n d / 2 ^ (c + 1) % 2 ^ n).toNat = _ := asrNat_succ hn hd c
  rw [asrSpec, hr, if_neg (Nat.succ_ne_zero c), if_neg (Nat.succ_ne_zero c), Nat.add_sub_cancel,
    ← asrNat_bottom hn hd c]
  rfl

omit hn in
theorem lsrSpec_succ (c : Nat) : lsrSpec n d (c + 1) x = shiftNext .lsr n (lsrSpec n d c x) := by
  have hc : (decide (c + 1 ≤ n) && d.testBit c) = (d / 2 ^ c).testBit 0 := by
    rw [Nat.testBit_div_two_pow, Nat.zero_add]
    by_cases h : c + 1 ≤ n
    · rw [decide_eq_true h, Bool.true_and]
    · rw [decide_eq_false h, Bool.false_and, testBit_eq_false_of_width_le hd (by omega)]
  rw [lsrSpec, shiftedRight_succ n, Nat.add_sub_cancel, decide_eq_true (Nat.le_add_left 1 c), Bool.true_and, hc]
  rfl

theorem rolSpec_succ (c : Nat) : rolSpec n d (c + 1) x = shiftNext .rol n (rolSpec n d c x) := by
  have hlt : rotlNat n d (c % n) < 2 ^ n := rotlNat_lt hd (Nat.mod_lt c hn).le
  have hc := testBit_rotlNat_one hn hlt 0
  rw [rolSpec, rotlNat_succ_mod hn hd, hc, rotlNat_one_eq_leftNat hn hlt, decide_eq_true (Nat.le_add_left 1 c),
    Bool.true_and]
  rfl

theorem rorSpec_succ (c : Nat) : rorSpec n d (c + 1) x = shiftNext .ror n (rorSpec n d c x) := by
  have hlt : rotrNat n d (c % n) < 2 ^ n := rotrNat_lt hd (Nat.mod_lt c hn).le
  have hc := testBit_rotrNat_one hn hlt (n - 1)
  rw [if_neg (Nat.lt_irrefl _), decide_eq_true rfl, Bool.true_and] at hc
  rw [rorSpec, rotrNat_succ_mod hn hd, hc, rotrNat_one_eq_rightNat hn, decide_eq_true (Nat.le_add_left 1 c),
    Bool.true_and]
  rfl

/-- The bit rotated into `X` is the top bit of the operand, and the `X` before it goes to the bottom. -/
theorem roxlSpec_succ (c : Nat) : roxlSpec n d (c + 1) x = shiftNext .roxl n (roxlSpec n d c x) := by
  have hpos : 0 < n + 1 := Nat.succ_pos n
  have hw : x.toNat * 2 ^ n + d < 2 ^ (n + 1) := extended_lt hd x
  have hlt := rotlNat_lt hw (Nat.mod_lt c hpos).le
  have hx := testBit_rotlNat_one hpos hlt n
  rw [if_neg hn.ne', decide_eq_true (Nat.lt_succ_self n), Bool.true_and] at hx
  have htop (w : Nat) : w.testBit (n - 1) = (w % 2 ^ n).testBit (n - 1) := by
    rw [Nat.testBit_mod_two_pow, decide_eq_true (Nat.sub_lt hn Nat.one_pos), Bool.true_and]
  rw [roxlSpec, rotlNat_succ_mod hpos hw, hx, rotlNat_one_eq_leftNat hpos hlt, leftNat_mod hn, htop]
  rfl

/-- The bit rotated into `X` is the bottom bit of the operand, and the `X` before it goes to the top. -/
theorem roxrSpec_succ (c : Nat) : roxrSpec n d (c + 1) x = shiftNext .roxr n (roxrSpec n d c x) := by
  have hpos : 0 < n + 1 := Nat.succ_pos n
  have hw : d * 2 + x.toNat < 2 ^ (n + 1) := by
    have hx := Bool.toNat_lt x
    rw [pow_succ]
    omega
  have hlt := rotrNat_lt hw (Nat.mod_lt c hpos).le
  have hx := testBit_rotrNat_one hpos hlt 0
  rw [Nat.add_sub_cancel, if_pos hn, ← Nat.testBit_div_two] at hx
  rw [roxrSpec, rotrNat_succ_mod hpos hw, hx, rotrNat_one_eq_rightNat hpos, rightNat_half hn]
  rfl

theorem shiftSpec_succ (op : ShiftOp) (c : Nat) :
    shiftSpec op n d (c + 1) x = shiftNext op n (shiftSpec op n d c x) := by
  cases op with
  | asl => exact aslSpec_succ hn hd x c
  | asr => exact asrSpec_succ hn hd x c
  | lsl => exact lslSpec_succ hn x c
  | lsr => exact lsrSpec_succ hd x c
  | rol => exact rolSpec_succ hn hd x c
  | ror => exact rorSpec_succ hn hd x c
  | roxl => exact roxlSpec_succ hn hd x c
  | roxr => exact roxrSpec_succ hn hd x c

end

end Sys2Proof.Proofs
end

section
/-! The shift and rotate instructions (R291 to R300): the step of the model is the step on numbers, so its repetition
is the closed form: O44, O45, O46. -/

namespace Sys2Proof.Proofs

open Sys2Proof.Machine Sys2Proof.Claims Sys2Proof.Laws

/-! The step of the model. -/

/-- What the model's shift carries from step to step, as numbers. -/
def specOf (t : ShiftState) : ShiftSpec := ⟨t.d.toNat, t.x, t.c, t.v⟩

section
variable (sz : Size) (d : Long) (b : Bool)

theorem sizeBits_pos : 0 < sizeBits sz := by cases sz <;> decide

theorem trunc_shiftLeft_toNat : (trunc sz (d <<< 1)).toNat = d.toNat * 2 % 2 ^ sizeBits sz := by
  rw [trunc_toNat, BitVec.toNat_shiftLeft, Nat.shiftLeft_eq]
  cases sz <;> simp only [sizeBits] <;> omega

theorem trunc_shiftLeft_or_lowBit_toNat :
    (trunc sz (d <<< 1) ||| lowBit b).toNat = leftNat (sizeBits sz) d.toNat b := by
  have hb : (lowBit b).toNat = b.toNat := by cases b <;> rfl
  have hlt : b.toNat < 2 ^ 1 := Nat.lt_succ_of_le (Bool.toNat_le b)
  have hdouble : d.toNat * 2 % 2 ^ sizeBits sz = 2 ^ 1 * (d.toNat % 2 ^ (sizeBits sz - 1)) := by
    rw [two_pow_eq_double (sizeBits_pos sz), Nat.mul_comm d.toNat, Nat.mul_mod_mul_left, pow_one]
  rw [BitVec.toNat_or, trunc_shiftLeft_toNat, hb, leftNat, hdouble, Nat.two_pow_add_eq_or_of_lt hlt]

variable {sz d}

theorem shiftRight_or_highBit_toNat (h : d.toNat < 2 ^ sizeBits sz) :
    (d >>> 1 ||| highBit sz b).toNat = rightNat (sizeBits sz) d.toNat b := by
  have hb : (highBit sz b).toNat = 2 ^ (sizeBits sz - 1) * b.toNat := by cases sz <;> cases b <;> rfl
  have hpow := two_pow_eq_double (sizeBits_pos sz)
  have hlt : d.toNat / 2 < 2 ^ (sizeBits sz - 1) := by omega
  rw [BitVec.toNat_or, BitVec.toNat_ushiftRight, Nat.shiftRight_eq_div_pow, pow_one, hb, rightNat, Nat.lor_comm,
    ← Nat.two_pow_add_eq_or_of_lt hlt, Nat.add_comm, Nat.mul_comm]

theorem shiftOut_eq_bitOut (op : ShiftOp) : shiftOut op sz d = bitOut op (sizeBits sz) d.toNat := by
  cases op <;> rfl

theorem shiftOnce_toNat (op : ShiftOp) (x : Bool) (h : d.toNat < 2 ^ sizeBits sz) :
    (shiftOnce op sz d x).toNat = shiftNat op (sizeBits sz) d.toNat x := by
  cases op with
  | asl | lsl => exact trunc_shiftLeft_toNat ..
  | rol | roxl => exact trunc_shiftLeft_or_lowBit_toNat ..
  | lsr =>
    show (d >>> 1).toNat = d.toNat / 2 + 0 * 2 ^ (sizeBits sz - 1)
    rw [BitVec.toNat_ushiftRight, Nat.zero_mul]
    rfl
  | asr | ror | roxr => exact shiftRight_or_highBit_toNat _ h

theorem specOf_shiftStep (op : ShiftOp) {t : ShiftState} (h : t.d.toNat < 2 ^ sizeBits sz) :
    specOf (shiftStep op sz t) = shiftNext op (sizeBits sz) (specOf t) := by
  have hd := shiftOnce_toNat op t.x h
  have hout := shiftOut_eq_bitOut (sz := sz) (d := t.d) op
  simp only [specOf, shiftStep, shiftNext, ShiftSpec.mk.injEq, hd, hout, true_and]
  rw [← hd]
  rfl

end

/-- The last of `c + 1` steps comes after `c`. -/
theorem shiftTimes_succ (op : ShiftOp) (sz : Size) (c : Nat) (t : ShiftState) :
    shiftTimes op sz (c + 1) t = shiftStep op sz (shiftTimes op sz c t) := by
  induction c generalizing t with
  | zero => rfl
  | succ c ih => exact ih (shiftStep op sz t)

/-! The shift of the model is its closed form (R291). -/

section
variable (op : ShiftOp) {sz : Size} {d : Long} (hd : d.toNat < 2 ^ sizeBits sz) (c : Nat) (x : Bool)
include hd

/-- The operand stays a number of its size from step to step, so that each step is the one on numbers. -/
theorem specOf_shiftTimes :
    specOf (shiftTimes op sz c (shiftStart op d x)) = shiftSpec op (sizeBits sz) d.toNat c x
    ∧ (shiftTimes op sz c (shiftStart op d x)).d.toNat < 2 ^ sizeBits sz := by
  have hn := sizeBits_pos sz
  induction c with
  | zero => exact ⟨(shiftSpec_zero hn hd x op).symm, hd⟩
  | succ c ih =>
    obtain ⟨hspec, hlt⟩ := ih
    rw [shiftTimes_succ, shiftSpec_succ hn hd, ← hspec]
    exact ⟨specOf_shiftStep op hlt, (shiftOnce_toNat op _ hlt).trans_lt (shiftNat_lt hn hlt)⟩

theorem shiftResult_toNat :
    (shiftResult op sz d c x).d.toNat = (shiftSpec op (sizeBits sz) d.toNat c x).r :=
  congrArg ShiftSpec.r (specOf_shiftTimes op hd c x).1

theorem shiftFlagsAre_shiftFlags :
    ShiftFlagsAre (sizeBits sz) (shiftSpec op (sizeBits sz) d.toNat c x) (shiftFlags sz (shiftResult op sz d c x)) := by
  obtain ⟨hspec, hlt⟩ := specOf_shiftTimes op hd c x
  rw [← hspec]
  refine ⟨rfl, rfl, rfl, ?_, ?_⟩
  · refine (msbOf_iff ..).trans ?_
    rw [uval, shiftResult, Nat.mod_eq_of_lt hlt]
    rfl
  · exact decide_eq_true_iff.trans BitVec.toNat_inj.symm

end

/-! The register and the memory forms (R291, R300). -/

section
variable (op : ShiftOp) (sz : Size) (c : ShiftCount) (dn : RegNo) (ea : EA) (s : State)

theorem exec_shiftRegI : exec (shiftRegI op sz c dn) s
    = .next ((s.mergeD sz dn (shiftResult op sz (trunc sz (s.dreg dn)) (countOf c s) s.sr.ccr.x).d).setFlags
        (shiftFlags sz (shiftResult op sz (trunc sz (s.dreg dn)) (countOf c s) s.sr.ccr.x))) := by
  have hexec : exec (shiftRegI op sz c dn) s = shiftReg op sz c dn s := by cases op <;> cases sz <;> rfl
  have hcount : countOf c s = shiftCount c s := by cases c <;> rfl
  rw [hexec, hcount]
  rfl

theorem shiftRegI_length : (shiftRegI op sz c dn).length = 1 := by cases op <;> cases sz <;> rfl

theorem exec_shiftMemI : exec (shiftMemI op ea) s
    = .next ((writeResolved ea .w (shiftResult op .w (operand ea .w s) 1 s.sr.ccr.x).d s).setFlags
        (shiftFlags .w (shiftResult op .w (operand ea .w s) 1 s.sr.ccr.x))) := by
  have hexec : exec (shiftMemI op ea) s = shiftMem op ea s := by cases op <;> rfl
  rw [hexec]
  simp only [shiftMem, withOperand, shiftApply, readOp_afterLocate, afterLocate_sr]
  rfl

theorem shiftMemI_length : (shiftMemI op ea).length = 1 + ea.words .w := by cases op <;> rfl

end

theorem fits_of_wf_shiftMemI {op : ShiftOp} {ea : EA} {band : HostBand} (h : (shiftMemI op ea).wf band = true) :
    Fits .memalt .w ea := by
  cases op <;> exact h

/-- Every register form does what its closed form says: the register's low bits are the operand. -/
theorem shiftsAs (op : ShiftOp) : ShiftsAs op := by
  intro sz c dn s
  have hd : (trunc sz (s.dreg dn)).toNat = uval sz (s.dreg dn) := trunc_toNat ..
  have hlt : (trunc sz (s.dreg dn)).toNat < 2 ^ sizeBits sz := hd ▸ uval_lt ..
  rw [← hd]
  exact ⟨_, exec_shiftRegI op sz c dn s,
    ordinary_of_harmless_one (Harmless.refl s).mergeD.setFlags rfl (shiftRegI_length ..) rfl, fun _ => rfl,
    ⟨fun _ => rfl, rfl⟩, writesD_mergeD (congrArg (· % _) (shiftResult_toNat op hlt _ _)),
    shiftFlagsAre_shiftFlags op hlt _ _⟩

/-- Settles O44, by the closed form of each shift. -/
theorem registerShiftsInClosedForm : Obligations.RegisterShiftsInClosedForm :=
  ⟨shiftsAs .asl, shiftsAs .asr, shiftsAs .lsl, shiftsAs .lsr⟩

/-- Settles O45, by the closed form of each rotate. -/
theorem registerRotatesInClosedForm : Obligations.RegisterRotatesInClosedForm :=
  ⟨shiftsAs .rol, shiftsAs .ror, shiftsAs .roxl, shiftsAs .roxr⟩

/-- Settles O46: a memory form is one step on a resolved word. -/
theorem memoryShiftsMoveOneBit : Obligations.MemoryShiftsMoveOneBit := by
  intro op ea s hwf
  have hea := (fits_of_wf_shiftMemI hwf).dataalt_of_memalt
  have hop := operand_toNat hea.wf s
  have hlt : (operand ea .w s).toNat < 2 ^ sizeBits .w := hop ▸ uval_lt ..
  rw [← hop]
  exact completes_writeResolved (exec_shiftMemI ..) (ordinary_afterLocate (shiftMemI_length ..)) hea
    (congrArg (· % _) (shiftResult_toNat op hlt 1 _)) (shiftFlagsAre_shiftFlags op hlt 1 _)

end Sys2Proof.Proofs
end

section
/-! Control flow (R321 to R331): where a transfer of control goes, the branches and the counted branches, the calls and
the returns: O20, O21, O22. -/

namespace Sys2Proof.Proofs

open Sys2Proof.Machine Sys2Proof.Claims Sys2Proof.Laws

/-! Where a transfer of control goes (R25, R29, R109). -/

section
variable (s : State)

theorem goesTo_setPc_ofInt (n : Int) : GoesTo n (s.setPc (BitVec.ofInt 32 n)) := by
  apply goesTo_setPc
  rw [BitVec.toNat_ofInt]
  exact Int.toNat_of_nonneg (Int.emod_nonneg n (by decide))

theorem goesTo_setPc_toNat (a : Long) : GoesTo a.toNat (s.setPc a) := by
  have hlt := a.isLt
  exact goesTo_setPc s a _ (by omega)

/-- The base of a displacement is the program counter of the state the instruction starts in. -/
theorem goesTo_setPc_pcb_add {w : Nat} (t : State) (d : BitVec w) :
    GoesTo (2 * (s.pc.toNat : Int) + d.toInt) (t.setPc (s.pcb + d.signExtend 32)) := by
  rw [pcb_eq_ofInt, signExtend_eq_ofInt, ← BitVec.ofInt_add]
  exact goesTo_setPc_ofInt ..

theorem goesTo_setPc_branchTarget (t : State) (d : BranchDisp) :
    GoesTo (2 * (s.pc.toNat : Int) + dispInt d) (t.setPc (branchTarget d s)) := by
  cases d <;> exact goesTo_setPc_pcb_add ..

/-- The address pushed by a call, past the words of its operand (R26). -/
theorem consume_pcb (k : Nat) : (s.consume k).pcb = addressAfter k s := by
  apply BitVec.eq_of_toNat_eq
  rw [pcb_toNat, addressAfter, State.consume_pc]
  simp only [BitVec.toNat_add, BitVec.toNat_ofNat]
  omega

theorem keepsRest_refl : KeepsRest s s := ⟨rfl, fun _ => rfl, fun _ => rfl, fun _ => rfl, rfl⟩

theorem keepsRest_consume (k : Nat) : KeepsRest s (s.consume k) :=
  ⟨rfl, fun _ => rfl, fun _ => rfl, fun _ => rfl, rfl⟩

variable {s} in
theorem keepsRest_setPc {t : State} (h : KeepsRest s t) (a : Long) : KeepsRest s (t.setPc a) :=
  ⟨h.flags, h.d, h.a, h.mem⟩

end

/-! BRA and Bcc (R321, R323). -/

/-- BRA is the branch whose condition always holds. -/
theorem exec_bcc {k : Cond} (hk : k ≠ .f) (d : BranchDisp) (s : State) : exec (bcc k d) s = branchIf k d s := by
  cases k with
  | f => exact absurd rfl hk
  | _ => rfl

theorem bcc_length (k : Cond) (d : BranchDisp) : (bcc k d).length = 1 + d.words := by cases k <;> rfl

/-- Settles O20: the condition decides between the target and the words of the instruction. -/
theorem branchesGoOrFallThrough : Obligations.BranchesGoOrFallThrough := by
  intro k d s hk
  rw [condTrue_iff, exec_bcc hk]
  have h := Harmless.refl s
  refine ⟨fun hcond => ?branch, fun hcond => ?fallThrough⟩
  case branch =>
    exact ⟨_, if_pos hcond, ⟨h.setPc.system, rfl⟩, keepsRest_setPc (keepsRest_refl s) _,
      goesTo_setPc_branchTarget ..⟩
  case fallThrough =>
    exact ⟨_, if_neg hcond, ordinary_of_harmless h.consume rfl (bcc_length k d) rfl, keepsRest_consume ..⟩

/-! DBcc (R324). -/

theorem exec_dbcc (k : Cond) (dn : RegNo) (d : Word) (s : State) :
    exec (dbcc k dn d) s = decrementBranch k dn d s := by
  cases k <;> rfl

theorem dbcc_length (k : Cond) (dn : RegNo) (d : Word) : (dbcc k dn d).length = 1 + 1 := by cases k <;> rfl

theorem counterLess_toNat (v : Long) : (counterLess v).toNat = (uval .w v + 65535) % 2 ^ 16 := by
  rw [counterLess, BitVec.toNat_sub, BitVec.toNat_setWidth, Nat.add_comm]
  rfl

/-- The counter passes below zero from zero alone. -/
theorem counterLess_eq_allOnes_iff (v : Long) : counterLess v = 0xFFFF#16 ↔ uval .w v = 0 := by
  have hlt : uval .w v < 2 ^ 16 := uval_lt .w v
  rw [← BitVec.toNat_inj, counterLess_toNat, BitVec.toNat_ofNat]
  omega

/-- The counter is written into the low word of its register. -/
theorem writesD_counterLess (dn : RegNo) (s : State) :
    WritesD .w dn (uval .w (s.dreg dn) + 65535) s (s.mergeD .w dn ((counterLess (s.dreg dn)).setWidth 32)) := by
  apply writesD_mergeD
  rw [BitVec.toNat_setWidth_of_le (by decide), counterLess_toNat]
  exact Nat.mod_mod ..

/-- Settles O21: the condition, then the counter, decide among three ways to go on. -/
theorem dbccCountsDown : Obligations.DbccCountsDown := by
  intro k dn d s
  rw [condTrue_iff, exec_dbcc]
  have h := Harmless.refl s
  refine ⟨fun hcond => ?holds, fun hcond => ?counts⟩
  case holds =>
    exact ⟨_, if_pos hcond, ordinary_of_harmless h.consume rfl (dbcc_length k dn d) rfl, keepsRest_consume ..⟩
  case counts =>
    have hwrites := writesD_counterLess dn s
    by_cases hzero : uval .w (s.dreg dn) = 0
    · exact ⟨_, (if_neg hcond).trans (if_pos ((counterLess_eq_allOnes_iff _).mpr hzero)),
        ⟨h.consume.mergeD.system, rfl⟩, rfl, fun _ => rfl, ⟨fun _ => rfl, rfl⟩, hwrites, fun _ => rfl,
        fun hne => absurd hzero hne⟩
    · exact ⟨_, (if_neg hcond).trans (if_neg (mt (counterLess_eq_allOnes_iff _).mp hzero)),
        ⟨h.consume.mergeD.setPc.system, rfl⟩, rfl, fun _ => rfl, ⟨fun _ => rfl, rfl⟩, hwrites,
        fun heq => absurd heq hzero, fun _ => goesTo_setPc_pcb_add ..⟩

/-! BSR and JSR (R322, R326), JMP (R325). -/

section
variable {a : Long} {n : Nat} {ea : EA} {s : State}

/-- The state after a call: the address past the words of the operand is pushed, and control goes to `a`. -/
def afterCall (n : Nat) (a : Long) (s : State) : State := ((s.consume n).push32 (s.consume n).pcb).setPc a

theorem quiet_afterCall : Quiet s (afterCall n a s) :=
  ⟨(Harmless.refl s).consume.push32.setPc.system, (s.consume n).push32_draws _⟩

theorem keepsFlags_afterCall : KeepsFlags s (afterCall n a s) :=
  congrArg StatusReg.ccr ((s.consume n).push32_sr _)

theorem pushesLong_afterCall : PushesLong (addressAfter n s) s (afterCall n a s) := by
  rw [← consume_pcb]
  exact pushesLong_push32 _ (s.consume n)

variable (ha : locate ea .l s = .mem a) (hafter : afterLocate ea .l s = s.consume (ea.words .l))
include ha hafter

theorem exec_jsr_of_locate : exec (.jsr ea) s = .next (afterCall (ea.words .l) a s) := by
  show Host.Outcome.next (((afterLocate ea .l s).push32 (afterLocate ea .l s).pcb).setPc (locate ea .l s).address) = _
  rw [ha, hafter]
  rfl

theorem exec_jmp_of_locate : exec (.jmp ea) s = .next ((s.consume (ea.words .l)).setPc a) := by
  show Host.Outcome.next ((afterLocate ea .l s).setPc (locate ea .l s).address) = _
  rw [ha, hafter]
  rfl

end

/-! RTS and RTR (R327, R328). -/

section
variable (s : State)

/-- RTR pops its long from above its word. -/
theorem drop16_top32 : s.drop16.top32 = s.memRead .l (s.areg 7 + 2#32) := by
  rw [State.top32, State.drop16_memRead, State.drop16, State.setSp_sp]
  rfl

/-- RTR pops six bytes. -/
theorem drop16_drop32_areg (q : RegNo) :
    s.drop16.drop32.areg q = if q = 7 then s.areg 7 + 6#32 else s.areg q := by
  have hsp : s.drop16.sp + 4#32 = s.areg 7 + 6#32 := by
    rw [State.drop16, State.setSp_sp, BitVec.add_assoc]
    rfl
  rw [State.drop32_areg]
  refine ite_congr rfl (fun _ => hsp) fun hq => ?_
  rw [State.drop16_areg]
  exact if_neg hq

/-- The low byte of a popped word holds the condition codes. -/
theorem ccrIs_ofByte_top16 : CcrIs (s.memRead .w (s.areg 7)).toNat (Flags.ofByte (s.top16.setWidth 8)) := by
  rw [State.top16, BitVec.setWidth_setWidth_of_le _ (by decide)]
  exact ccrIs_ofByte_setWidth _

end

/-- Settles O22: a call pushes and goes on at its target, a return goes on at the long it pops. -/
theorem callsJumpsAndReturns : Obligations.CallsJumpsAndReturns := by
  intro s
  have h := Harmless.refl s
  refine ⟨fun d => ?bsr, fun ea hwf => ?jsr, fun ea hwf => ?jmp, ?rts, ?rtr, rfl⟩
  case bsr =>
    exact ⟨afterCall d.words (branchTarget d s) s, rfl, quiet_afterCall, keepsFlags_afterCall, pushesLong_afterCall,
      goesTo_setPc_branchTarget ..⟩
  case jsr =>
    obtain ⟨a, ha, -, hafter⟩ := locate_control (s := s) (Fits.member (c := .control) hwf)
    exact ⟨a, _, ha, exec_jsr_of_locate ha hafter, quiet_afterCall, keepsFlags_afterCall, pushesLong_afterCall,
      goesTo_setPc_toNat ..⟩
  case jmp =>
    obtain ⟨a, ha, -, hafter⟩ := locate_control (s := s) (Fits.member (c := .control) hwf)
    exact ⟨a, _, ha, exec_jmp_of_locate ha hafter, ⟨h.consume.setPc.system, rfl⟩,
      keepsRest_setPc (keepsRest_consume s _) a, goesTo_setPc_toNat ..⟩
  case rts =>
    exact ⟨_, rfl, ⟨h.drop32.setPc.system, rfl⟩, rfl, fun _ => rfl, ⟨fun _ => rfl, rfl⟩, s.drop32_areg,
      goesTo_setPc_toNat ..⟩
  case rtr =>
    refine ⟨_, rfl, ⟨h.drop16.drop32.setFlags.setPc.system, rfl⟩, fun _ => rfl, ⟨fun _ => rfl, rfl⟩,
      drop16_drop32_areg s, ccrIs_ofByte_top16 s, ?_⟩
    rw [drop16_top32]
    exact goesTo_setPc_toNat ..

end Sys2Proof.Proofs
end

section
/-! The system instructions (R340 to R356) and the host band (R360 to R363): O11, O14, O15, O16, O18, O48. -/

namespace Sys2Proof.Proofs

open Sys2Proof.Machine Sys2Proof.Claims Sys2Proof.Laws

/-! A write of the status register in supervisor mode (R34). -/

section
variable {s u : State} (hs : s.sr.s = true)
include hs

theorem stacksAfter_setSR (h : KeepsSystem s u) (v : Word) : StacksAfter v.toNat (u.areg 7) s (u.setSR v) := by
  have hu : u.sr.s = true := h.supervisor.trans hs
  refine ⟨?_, fun hbit => ?_, fun hbit => ?_⟩
  · rw [setSR_usp, hu, ← h.usp]
    rfl
  · have hv : v.getLsbD 13 = true := hbit
    rw [setSR_sp, setSR_ssp, hu, hv, ← h.ssp]
    exact ⟨rfl, rfl⟩
  · have hv : v.getLsbD 13 = false := hbit
    rw [setSR_sp, setSR_ssp, hu, hv, ← h.usp]
    exact ⟨rfl, rfl⟩

/-- The write, and one of `pc` or of the stopped state after it, from the state the instruction has come to. -/
theorem srWrite_setSR (h : Quiet s u) (hd : KeepsD s u) (hm : KeepsMemory s u) (v : Word) (pc : CellIndex)
    (stopped : Bool) :
    SrWrite v.toNat (u.areg 7) s { u.setSR v with pc := pc, stopped := stopped } where
  sr    := srIs_setSR v u
  stack := stacksAfter_setSR hs h.system v
  d q   := (u.setSR_dreg v q).trans (hd q)
  mem   := by
    obtain ⟨hbytes, hevents⟩ := keepsMemory_setSR v u
    exact ⟨fun x => (hbytes x).trans (hm.1 x), hevents.trans hm.2⟩
  host  := by
    obtain ⟨pending, slots, outcome, inputs, traps, draws, config⟩ := keepsHost_setSR v u
    exact ⟨pending.trans h.system.irqPending, slots.trans h.system.irqSlots, outcome.trans h.system.outcome,
      inputs.trans h.system.hostInputs, traps.trans h.system.hostTraps, draws.trans h.draws,
      config.trans h.system.config⟩

/-- The same past the instruction's own word. -/
theorem srWrite_consume (v : Word) (stopped : Bool) :
    SrWrite v.toNat (s.areg 7) s { (s.consume 1).setSR v with stopped := stopped } :=
  srWrite_setSR hs ⟨(Harmless.refl s).consume.system, rfl⟩ (fun _ => rfl) ⟨fun _ => rfl, rfl⟩ v _ stopped

/-- An immediate form on the status register, with the number of the word it writes (R353 to R355). -/
theorem completes_srImmediate {i : Instr} {f : Word → Word} {n : Nat}
    (hexec : exec i s = privileged (srImmediate f) s) (hn : (f s.sr.toWord).toNat = n) :
    ∃ t, exec i s = .next t ∧ SrWrite n (s.areg 7) s t ∧ (∀ q, q ≠ 7 → t.areg q = s.areg q)
      ∧ t.stopped = s.stopped ∧ t.pc = s.pc + 1#31 := by
  subst hn
  exact ⟨_, hexec.trans (if_pos hs), srWrite_consume hs _ _, fun _ => setSR_areg_other _ _, State.setSR_stopped ..,
    State.setSR_pc ..⟩

end

/-- A word operand is read as its word (R7). -/
theorem operand_setWidth_toNat {ea : EA} (h : ea.wf .w = true) (s : State) :
    ((operand ea .w s).setWidth 16).toNat = (operand ea .w s).toNat :=
  (BitVec.toNat_setWidth ..).trans (operand_toNat h s).symm

/-- Settles O11: the users of `setSR` write their word from the state with their operand read or their word
consumed. -/
theorem supervisorInstructionsHaveTheirEffect : Obligations.SupervisorInstructionsHaveTheirEffect := by
  intro s hs
  refine ⟨fun ea hwf => ?moveToSr, fun imm => ?andi, fun imm => ?ori, fun imm => ?eori, fun imm => ?stop,
    fun an => if_pos hs, fun an => ?moveFromUsp, if_pos hs⟩
  case moveToSr =>
    obtain ⟨quiet, -, d, a, mem, pc⟩ := afterSource_afterLocate ea .w s
    rw [← operand_setWidth_toNat (Fits.wf (c := .data) hwf) s, ← a 7]
    exact ⟨_, exec_moveToSr hs, srWrite_setSR hs quiet d mem _ _ _, fun q hq => (setSR_areg_other _ _ hq).trans (a q),
      (State.setSR_stopped ..).trans quiet.system.stopped, (State.setSR_pc ..).trans pc⟩
  case andi => exact completes_srImmediate hs (f := (· &&& imm)) rfl (BitVec.toNat_and ..)
  case ori => exact completes_srImmediate hs (f := (· ||| imm)) rfl (BitVec.toNat_or ..)
  case eori => exact completes_srImmediate hs (f := (· ^^^ imm)) rfl (BitVec.toNat_xor ..)
  case stop =>
    exact ⟨_, if_pos hs, srWrite_consume hs imm true, fun _ => setSR_areg_other _ _, rfl, State.setSR_pc ..⟩
  case moveFromUsp =>
    exact ⟨_, if_pos hs, ordinary_of_harmless_one (Harmless.refl s).setA rfl rfl rfl, rfl, fun _ => rfl,
      ⟨fun _ => rfl, rfl⟩, fun q => s.setA_areg an q s.usp⟩

/-- RTE pops six bytes, and then writes the word it has popped (R347). -/
theorem srWrite_returnException {s : State} (hs : s.sr.s = true) :
    SrWrite (s.memRead .w (s.areg 7)).toNat (s.areg 7 + 6#32) s s.returnException := by
  have hword : ((s.memRead .w s.sp).setWidth 16).toNat = (s.memRead .w (s.areg 7)).toNat :=
    operand_setWidth_toNat (ea := .ind 7) rfl s
  have hsp : (s.setSp (s.sp + 6#32)).areg 7 = s.areg 7 + 6#32 := s.setSp_sp _
  rw [← hword, ← hsp]
  exact srWrite_setSR hs ⟨(Harmless.refl s).setSp.system, rfl⟩ (fun _ => rfl) ⟨fun _ => rfl, rfl⟩ _ _ _

/-- Settles O18: RTE goes to the long it pops from above the word it writes. -/
theorem rteRestoresStatusAndAddress : Obligations.RteRestoresStatusAndAddress := by
  intro s hs
  refine ⟨s.returnException, if_pos hs, srWrite_returnException hs, fun q hq => ?_, State.setSR_stopped ..,
    goesTo_setPc_toNat ..⟩
  exact (setSR_areg_other _ _ hq).trans ((s.setSp_areg q _).trans (if_neg hq))

/-! Exceptions that an instruction raises (R340 to R346). -/

/-- A privileged instruction is turned away in user mode before it does anything (R340). -/
theorem exec_isPrivileged_of_user {i : Instr} {s : State} (hi : IsPrivileged i) (hs : s.sr.s = false) :
    exec i s = privilegeViolation s := by
  have hno : ¬ s.sr.s = true := hs ▸ Bool.false_ne_true
  rcases hi with rfl | rfl | ⟨w, rfl⟩ | ⟨ea, rfl⟩ | ⟨w, rfl⟩ | ⟨w, rfl⟩ | ⟨w, rfl⟩ | ⟨r, rfl⟩ | ⟨r, rfl⟩ <;>
    exact if_neg hno

/-- Settles O14: all of them take the privilege path from the state they start in. -/
theorem privilegedInstructionsTrapInUserMode : Obligations.PrivilegedInstructionsTrapInUserMode := by
  intro i s hi hs
  rw [exec_isPrivileged_of_user hi hs]
  exact ⟨takes_of_entered (entered_privilegeState s), fails_of_entered (entered_privilegeState s)⟩

/-- Settles O15: each raises its vector from the state it starts in, TRAPV where `V` is set. -/
theorem trapInstructionsTakeTheirVector : Obligations.TrapInstructionsTakeTheirVector := by
  intro s
  refine ⟨fun v => raises_enterException _ s, raises_enterException 4 s, fun _ => raises_enterException 4 s,
    fun _ => raises_enterException 10 s, fun _ => raises_enterException 11 s, fun hv => ?_, fun hv => ?_⟩
  · have hexec : exec .trapv s = enterException 7 s := if_pos hv
    rw [hexec]
    exact raises_enterException 7 s
  · exact if_neg (hv ▸ Bool.false_ne_true)

/-! CHK (R343). -/

/-- CHK with its operand read: `N` as given, and `k` free values drawn, of which `Z`, `V`, `C` are the first. -/
def checkedState (n : Bool) (k : Nat) (s : State) : State :=
  (s.setFlags ⟨s.sr.ccr.x, n, s.freeBit 0, s.freeBit 1, s.freeBit 2⟩).advanceDraws k

section
variable (ea : EA) (dn : RegNo) (s : State)

theorem afterDrawn_checkedState (n : Bool) (k : Nat) : AfterDrawn ea k s (checkedState n k (afterLocate ea .w s)) := by
  obtain ⟨⟨-, draws⟩, flags, d, a, mem, pc⟩ := afterSource_afterLocate ea .w s
  have hx : (afterLocate ea .w s).sr.ccr.x = s.sr.ccr.x := congrArg Flags.x flags
  exact ⟨(Harmless.refl s).afterLocate.setFlags.advanceDraws.system, congrArg (· + k) draws, hx, d, a, mem, pc⟩

/-- The three cases of CHK. -/
theorem exec_chk :
    exec (.chk ea dn) s =
      if sval .w (s.dreg dn) < 0 then enterException 6 (checkedState true 3 (afterLocate ea .w s))
      else if sval .w (operand ea .w s) < sval .w (s.dreg dn) then
        enterException 6 (checkedState false 3 (afterLocate ea .w s))
      else .next (checkedState ((afterLocate ea .w s).freeBit 3) 4 (afterLocate ea .w s)) := by
  show checkBounds ea dn s = _
  simp only [checkBounds, withSource, readOp_afterLocate, afterLocate_dreg, signedOf, sext_toInt]
  rfl

end

/-- Settles O16, by the three cases of CHK. -/
theorem chkTrapsOutOfBounds : Obligations.ChkTrapsOutOfBounds := by
  intro ea dn s
  rw [exec_chk]
  refine ⟨fun hlo hhi => ?_, fun hlo => ?_, fun hlo hhi => ?_⟩
  · rw [if_neg (not_lt.mpr hlo), if_neg (not_lt.mpr hhi)]
    exact ⟨_, rfl, afterDrawn_checkedState ..⟩
  · rw [if_pos hlo]
    exact ⟨_, afterDrawn_checkedState .., rfl, raises_enterException 6 _⟩
  · rw [if_neg (not_lt.mpr hlo), if_pos hhi]
    exact ⟨_, afterDrawn_checkedState .., rfl, raises_enterException 6 _⟩

/-! The host band (R360 to R363). -/

/-- What the collaborator's actions leave, whatever they are (R363). -/
structure KeepsCore (s t : State) : Prop where
  config     : t.config = s.config
  irqSlots   : t.irqSlots = s.irqSlots
  hostInputs : t.hostInputs = s.hostInputs
  hostTraps  : t.hostTraps = s.hostTraps
  draws      : t.draws = s.draws
  stopped    : t.stopped = s.stopped
  outcome    : t.outcome = s.outcome
  trace      : s.traceEnabled = s.sr.t → t.traceEnabled = t.sr.t

namespace KeepsCore
variable {s t u : State}

theorem refl (s : State) : KeepsCore s s := ⟨rfl, rfl, rfl, rfl, rfl, rfl, rfl, id⟩

theorem trans (h : KeepsCore s t) (k : KeepsCore t u) : KeepsCore s u where
  config     := k.config.trans h.config
  irqSlots   := k.irqSlots.trans h.irqSlots
  hostInputs := k.hostInputs.trans h.hostInputs
  hostTraps  := k.hostTraps.trans h.hostTraps
  draws      := k.draws.trans h.draws
  stopped    := k.stopped.trans h.stopped
  outcome    := k.outcome.trans h.outcome
  trace      := k.trace ∘ h.trace

theorem setSR (v : Word) (s : State) : KeepsCore s (s.setSR v) := by
  obtain ⟨-, slots, outcome, inputs, traps, draws, config⟩ := keepsHost_setSR v s
  exact ⟨config, slots, inputs, traps, draws, s.setSR_stopped v, outcome, fun _ => rfl⟩

theorem memWrite (sz : Size) (a v : Long) (s : State) : KeepsCore s (s.memWrite sz a v) := by
  constructor <;> simp

theorem hostAct (act : HostAction) (s : State) : KeepsCore s (hostAct act s) := by
  cases act with
  | setSR v => exact setSR v s
  | memWrite sz a v => exact memWrite sz a v s
  | setD | setA | setPc | bulkWrite | signalInterrupt => exact ⟨rfl, rfl, rfl, rfl, rfl, rfl, rfl, id⟩

theorem hostActs (acts : List HostAction) (s : State) : KeepsCore s (hostActs acts s) := by
  induction acts generalizing s with
  | nil => exact refl s
  | cons act rest ih => exact (hostAct act s).trans (ih _)

end KeepsCore

/-- A word of the band that is neither the sentinel nor a bridge opcode calls the collaborator (R360). -/
theorem exec_hosttrap_of_service {w : Word} {s : State} (hstop : w ≠ s.config.band.stop)
    (hops : ∀ op ∈ s.config.fpOps, op.opcode ≠ w) : exec (.hosttrap w) s = .next (hostService w s) := by
  have hnone : bridgeOpOf s.config w = none := List.find?_eq_none.mpr (by simpa using hops)
  show hostTrapWord w s = _
  rw [hostTrapWord, if_neg hstop, hnone]

/-- Settles O48: the three cases of the band but for the bridge, and what an action keeps. -/
theorem hostTrapsStopOrCallTheHost : Obligations.HostTrapsStopOrCallTheHost := by
  intro s
  refine ⟨if_pos rfl, fun w hstop hops => exec_hosttrap_of_service hstop hops, fun acts => ?_⟩
  obtain ⟨config, slots, inputs, traps, draws, stopped, outcome, trace⟩ := KeepsCore.hostActs acts s
  exact ⟨config, slots, inputs, traps, draws, stopped, outcome, trace⟩

end Sys2Proof.Proofs
end

section
/-! The exception entry and its return (R425 to R431, R347), the interrupt registry (R439 to R441), and the
invariant at reset (R481): O13, O19, O55, O59. -/

namespace Sys2Proof.Proofs

open Sys2Proof.Machine Sys2Proof.Claims Sys2Proof.Laws

/-! Reset (R470, R471). -/

theorem registryUnique_replicate_none : registryUnique (Vector.replicate 10 none) := by
  intro i j p q hp
  rw [Vector.getElem_replicate] at hp
  cases hp

/-- Configuration T meets the constraints of R6. -/
theorem testT_wf : Config.testT.wf = true := by decide +kernel

/-- Settles O59: nothing is stored, no slot is taken, and trace is off. -/
theorem invariantHoldsAtReset : Obligations.InvariantHoldsAtReset :=
  ⟨⟨rfl, rfl, rfl, registryUnique_replicate_none⟩, testT_wf⟩

/-! The interrupt registry (R439 to R441). -/

section
variable {slots : Vector (Option IrqHandler) 10} {s : State} {h p : IrqHandler} {k : Fin 10}

theorem classPresent_of_slot (hk : slots[k.val] = some p) (hcls : p.cls = h.cls) :
    classPresent slots h.cls = true :=
  List.any_eq_true.mpr ⟨k, List.mem_finRange k, by simp [hk, hcls]⟩

theorem classPresent_eq_false {cls : Nat}
    (hne : ∀ (j : Fin 10) (p : IrqHandler), slots[j.val] = some p → p.cls ≠ cls) :
    classPresent slots cls = false := by
  refine List.any_eq_false.mpr fun j _ => ?_
  cases hj : slots[j.val] with
  | none => exact Bool.false_ne_true
  | some p => simpa using hne j p hj

/-- The search for an empty slot stops at the lowest one. -/
theorem lowestEmpty_eq_some (hk : slots[k.val] = none) (hlow : ∀ j : Fin 10, j < k → slots[j.val] ≠ none) :
    lowestEmpty slots = some k :=
  Fin.find?_eq_find?_finRange.symm.trans
    (Fin.find?_eq_some_iff.mpr ⟨decide_eq_true hk, fun j hj => decide_eq_false (hlow j hj)⟩)

theorem lowestEmpty_eq_none (hfull : ∀ j : Fin 10, slots[j.val] ≠ none) : lowestEmpty slots = none :=
  List.find?_eq_none.mpr fun j _ => by simpa using hfull j

/-- A class that is there already is refused, and so is every class where no slot is empty. -/
theorem registerHandler_refused (hno : classPresent s.irqSlots h.cls = true ∨ lowestEmpty s.irqSlots = none) :
    registerResult h s = -1 ∧ (registerHandler h s).irqSlots = s.irqSlots := by
  simp only [registerResult, registerHandler]
  rcases hno with hno | hno <;> simp [hno]

theorem registerHandler_accepted (hnew : classPresent s.irqSlots h.cls = false)
    (hk : lowestEmpty s.irqSlots = some k) :
    registerResult h s = k.val ∧ (registerHandler h s).irqSlots = s.irqSlots.set k.val (some h) := by
  simp [registerResult, registerHandler, hnew, hk]

end

/-- Settles O55: a registration is refused or takes the lowest empty slot; the index of a slot is in range, and every
signal sets the one latch. -/
theorem registryKeepsOneHandlerPerClass : Obligations.RegistryKeepsOneHandlerPerClass := by
  intro s
  refine ⟨fun h p k hk hcls => ?present, fun h k hnew hk hlow => ?accepted, fun h hfull => ?full,
    fun k => ?unregister, fun n hn => dif_neg (by omega), fun n => ⟨rfl, rfl⟩⟩
  case present => exact registerHandler_refused (.inl (classPresent_of_slot hk hcls))
  case accepted => exact registerHandler_accepted (classPresent_eq_false hnew) (lowestEmpty_eq_some hk hlow)
  case full => exact registerHandler_refused (.inr (lowestEmpty_eq_none hfull))
  case unregister => exact dif_pos (by omega)

/-! Exceptions (R425 to R431). -/

/-- Settles O13: both paths from the state the entry leaves before it reads its vector. -/
theorem exceptionEntryAndPrivilegePath : Obligations.ExceptionEntryAndPrivilegePath :=
  ⟨raises_enterException, fun s =>
    ⟨takes_of_entered (entered_privilegeState s), fails_of_entered (entered_privilegeState s)⟩⟩

/-! RTE after an exception (R347). -/

/-- A byte address back to its cell index (R25). -/
theorem pcb_extractLsb' (s : State) : s.pcb.extractLsb' 1 31 = s.pc :=
  BitVec.extractLsb'_append_eq_left

section
variable {s u : State} {ra : Long} {generic : Bool}

/-- The frame of an entry reads back where it is writable and its two parts are apart (R425). -/
theorem frame_reads_back (h : Entered ra generic s u) (hc : s.config.totalRamSize ≤ s.config.totalMemSize)
    (hl : s.writable .l (stackBase s - 4#32) = true) (hw : s.writable .w (stackBase s - 6#32) = true)
    (hapart : accessAddr s.config .w (stackBase s - 6#32) + 2 ≤ accessAddr s.config .l (stackBase s - 4#32)
      ∨ accessAddr s.config .l (stackBase s - 4#32) + 4 ≤ accessAddr s.config .w (stackBase s - 6#32)) :
    (u.memRead .w (stackBase s - 6#32)).setWidth 16 = s.sr.toWord
      ∧ u.memRead .l (stackBase s - 4#32) = ra := by
  obtain ⟨m, hm, hlong, hword⟩ := h.frame
  have hu : u.config = m.config := h.host.config.trans hm.symm
  rw [← State.writable_congr hm] at hw
  constructor
  · have hread := stores_memRead hword hw hu (hm ▸ hc)
    apply BitVec.eq_of_toNat_eq
    rw [BitVec.toNat_setWidth, hread]
    have := s.sr.toWord.isLt
    simp only [sizeBits]
    omega
  · have hread := stores_memRead hlong hl hm hc
    rw [stores_memRead_other hword hu _ _ (hm ▸ hapart.symm)]
    apply BitVec.eq_of_toNat_eq
    rw [hread]
    exact Nat.mod_eq_of_lt ra.isLt

/-- An entry, and what a return needs of it, do not depend on where the program counter stands. -/
theorem entered_withPc (h : Entered ra generic s u) (p : CellIndex) :
    Entered ra generic { s with pc := p } { u with pc := p } := by
  obtain ⟨d, sp, a, usp, ssp, supervisor, trace, mask, flags, traceEnabled, stopped, -, host, frame⟩ := h
  obtain ⟨pending, slots, outcome, inputs, traps, draws, config⟩ := host
  exact ⟨d, sp, a, usp, ssp, supervisor, trace, mask, flags, traceEnabled, stopped, rfl,
    ⟨pending, slots, outcome, inputs, traps, draws, config⟩, frame⟩

theorem exec_rte (hu : u.sr.s = true) : exec .rte u = .next u.returnException := if_pos hu

/-- The state a return leaves but for `pc`: the frame popped, and the status word of `s` written. -/
def afterReturn (s u : State) : State := (u.setSp (stackBase s)).setSR s.sr.toWord

/-- The return where the frame reads back. -/
theorem returnException_of_entered (h : Entered ra generic s u)
    (hword : (u.memRead .w (stackBase s - 6#32)).setWidth 16 = s.sr.toWord)
    (hlong : u.memRead .l (stackBase s - 4#32) = ra) :
    u.returnException = (afterReturn s u).setPc ra := by
  have hsp : u.sp = stackBase s - 6#32 := h.sp
  have hup : stackBase s - 6#32 + 2#32 = stackBase s - 4#32 := by bv_omega
  rw [State.returnException, hsp, BitVec.sub_add_cancel, hup, hword, hlong]
  rfl

theorem afterReturn_status (s u : State) :
    (afterReturn s u).sr = s.sr ∧ (afterReturn s u).traceEnabled = s.sr.t :=
  have hword : StatusReg.ofWord s.sr.toWord = s.sr := statusReg_ofWord_toWord s.sr
  ⟨hword, congrArg StatusReg.t hword⟩

/-- The stack pointers of a return: the mode it returns to decides whether they are swapped back. -/
theorem afterReturn_stacks (h : Entered ra generic s u) :
    (afterReturn s u).areg 7 = s.areg 7 ∧ (afterReturn s u).ssp = s.ssp
      ∧ (s.sr.s = true → (afterReturn s u).usp = s.usp) := by
  have hbit : s.sr.toWord.getLsbD 13 = s.sr.s := statusReg_toWord_getLsbD s.sr 13
  rw [afterReturn, setSR_sp, setSR_ssp, setSR_usp, hbit, State.setSp_sr, State.setSp_usp, State.setSp_ssp,
    h.supervisor, h.usp, h.ssp]
  have hsp : (u.setSp (stackBase s)).areg 7 = stackBase s := u.setSp_sp _
  rw [hsp, stackBase]
  cases s.sr.s <;> simp

theorem keepsA_afterReturn (h : Entered ra generic s u) : KeepsA s (afterReturn s u) := by
  intro q
  by_cases hq : q = 7
  · exact hq ▸ (afterReturn_stacks h).1
  · exact (setSR_areg_other _ _ hq).trans (((u.setSp_areg q _).trans (if_neg hq)).trans (h.a q hq))

theorem keepsD_afterReturn (h : Entered ra generic s u) : KeepsD s (afterReturn s u) := fun q =>
  (State.setSR_dreg ..).trans (h.d q)

theorem afterReturn_mem : (afterReturn s u).mem = u.mem := State.setSR_mem ..

end

/-- The registers of a file are the file. -/
theorem d_eq_of_keepsD {s t : State} (h : KeepsD s t) : t.d = s.d := Vector.ext fun k hk => h ⟨k, hk⟩

theorem a_eq_of_keepsA {s t : State} (h : KeepsA s t) : t.a = s.a := Vector.ext fun k hk => h ⟨k, hk⟩

/-- An entry that goes on has only its `pc` left to set. -/
theorem entryState_of_enterException {v : Nat} {s t : State} (h : enterException v s = .next t) :
    ∃ target, t = s.entryState.setPc target :=
  answers_jumpVector (P := fun t => ∃ target, t = s.entryState.setPc target) (fun target => ⟨target, rfl⟩) t h

/-- Settles O19: the frame reads back, and the return swaps the stack pointers where the entry has. -/
theorem rteUndoesAnExceptionEntry : Obligations.RteUndoesAnExceptionEntry := by
  intro v s t p hc hl hw hapart ht
  obtain ⟨target, rfl⟩ := entryState_of_enterException ht
  have hentered := entered_withPc (entered_entryState s) p
  obtain ⟨hword, hlong⟩ := frame_reads_back hentered hc hl hw hapart
  have hexec := exec_rte hentered.supervisor
  rw [returnException_of_entered hentered hword hlong] at hexec
  obtain ⟨-, hssp, husp⟩ := afterReturn_stacks hentered
  obtain ⟨hsr, htrace⟩ := afterReturn_status { s with pc := p } { s.entryState with pc := p }
  exact ⟨_, hexec, d_eq_of_keepsD (keepsD_afterReturn hentered), a_eq_of_keepsA (keepsA_afterReturn hentered), hsr,
    pcb_extractLsb' s, hssp, husp, htrace, afterReturn_mem⟩

end Sys2Proof.Proofs
end

section
/-! The float bridge (R381 to R402): O49, O50, O51. -/

namespace Sys2Proof.Proofs

open Sys2Proof.Machine Sys2Proof.Claims Sys2Proof.Laws

/-! Guest floats that binary64 holds exactly (R386, R389, R390). -/

section
variable {n k x f : Nat} {e : Int}

theorem ratLog_one (hlow : 2 ^ k ≤ n) (hhigh : n < 2 ^ (k + 1)) : ratLog n 1 = k := by
  have hlog : n.log2 = k := (Nat.log2_eq_iff (by have := Nat.two_pow_pos k; omega)).mpr ⟨hlow, hhigh⟩
  have hone : Nat.log2 1 = 0 := rfl
  have hup : scaleUp n ((0 : Nat) - k) = n := by simp [scaleUp]
  have hdown : scaleUp 1 ((k : Int) - (0 : Nat)) = 2 ^ k := by simp [scaleUp]
  rw [ratLog, hlog, hone, hup, hdown, if_neg (by omega)]
  simp

theorem nearestEven_one (n : Nat) : nearestEven n 1 = n := by simp [nearestEven, Nat.mod_one]

/-- A significand of 53 bits, with its leading bit, takes the place of the field `x` of the exponent. -/
theorem assemble_normal (neg : Bool) (hx : 1 ≤ x) (hx' : x ≤ 2046) (hf : f < 2 ^ 52) :
    assemble neg (2 ^ 52 + f) ((x : Int) - 1075) = BitVec.ofBool neg ++ BitVec.ofNat 63 (x * 2 ^ 52 + f) := by
  have hplace : ((x : Int) - 1075 + 1074).toNat = x - 1 := by omega
  have hsum : (x - 1) * 2 ^ 52 + (2 ^ 52 + f) = x * 2 ^ 52 + f := by omega
  rw [assemble, hplace, hsum, if_neg (by omega)]

/-- A significand of at most 53 bits in the range of the normal numbers is not rounded: it is shifted up to 53 bits,
and the exponent of its leading bit is biased by 1023 (R394). -/
theorem roundRat_exact (neg : Bool) (hlow : 2 ^ k ≤ n) (hhigh : n < 2 ^ (k + 1)) (hk : k ≤ 52) (hx : 1 ≤ x)
    (hx' : x ≤ 2046) (he : (k : Int) + e + 1023 = x) (hf : n * 2 ^ (52 - k) = 2 ^ 52 + f) (hf' : f < 2 ^ 52) :
    roundRat neg n 1 e = BitVec.ofBool neg ++ BitVec.ofNat 63 (x * 2 ^ 52 + f) := by
  have hn : n ≠ 0 := by have := Nat.two_pow_pos k; omega
  have hlast : lastBit n 1 e = x - 1075 := by
    rw [lastBit, ratLog_one hlow hhigh]
    omega
  have hup : scaleUp n (e - ((x : Int) - 1075)) = 2 ^ 52 + f := by
    rw [scaleUp, show (e - ((x : Int) - 1075)).toNat = 52 - k by omega, hf]
  have hdown : scaleUp 1 ((x : Int) - 1075 - e) = 1 := by
    rw [scaleUp, show ((x : Int) - 1075 - e).toNat = 0 by omega, Nat.pow_zero]
  rw [roundRat, if_neg hn, hlast, hup, hdown, nearestEven_one, assemble_normal neg hx hx' hf']

end

section
variable (neg : Bool) {v : BitVec 63} {x f : Nat} (hv : v.toNat = x * 2 ^ 52 + f * 2 ^ 22) (hx' : x ≤ 2046)
  (hf : f < 2 ^ 30)

/-- The guest float of a binary64 number with the fields `x` of the exponent and `f * 2^22` of the fraction (R389). -/
def guestOf (neg : Bool) (x f : Nat) : Word × Long :=
  if neg = false then (BitVec.ofNat 16 (x + 0x402), BitVec.ofNat 32 (2 ^ 30 + f))
  else if f = 0 then (BitVec.ofNat 16 (x + 0x401), 0x80000000#32)
  else (BitVec.ofNat 16 (x + 0x402), 0#32 - BitVec.ofNat 32 (2 ^ 30 + f))

include hv hx' hf in
theorem exponent_field : (BitVec.ofBool neg ++ v).extractLsb' 52 11 = BitVec.ofNat 11 x := by
  apply BitVec.eq_of_toNat_eq
  rw [signed_exponent, hv, BitVec.toNat_ofNat]
  omega

include hv in
theorem mantissa_field : (BitVec.ofBool neg ++ v).extractLsb' 22 30 = BitVec.ofNat 30 f := by
  apply BitVec.eq_of_toNat_eq
  rw [BitVec.extractLsb'_append_eq_of_add_le (by decide), BitVec.extractLsb'_toNat, hv, BitVec.toNat_ofNat,
    Nat.shiftRight_eq_div_pow]
  omega

/-- The leading bit of the significand joins the 30 bits kept of the fraction (R389). -/
theorem one_append_mantissa (hf : f < 2 ^ 30) :
    (1#2 ++ BitVec.ofNat 30 f : BitVec 32) = BitVec.ofNat 32 (2 ^ 30 + f) := by
  apply BitVec.eq_of_toNat_eq
  rw [toNat_append_add, BitVec.toNat_ofNat, BitVec.toNat_ofNat, BitVec.toNat_ofNat]
  omega

theorem rebias_exponent (hx' : x ≤ 2046) (b : Nat) :
    (BitVec.ofNat 11 x).setWidth 16 + BitVec.ofNat 16 b = BitVec.ofNat 16 (x + b) := by
  rw [BitVec.setWidth_ofNat_of_le_of_lt (by decide) (by omega), ← BitVec.ofNat_add]

theorem ofNat_eq_ofNat_iff {w a b : Nat} (ha : a < 2 ^ w) (hb : b < 2 ^ w) :
    BitVec.ofNat w a = BitVec.ofNat w b ↔ a = b := by
  rw [← BitVec.toNat_inj, BitVec.toNat_ofNat, BitVec.toNat_ofNat, Nat.mod_eq_of_lt ha, Nat.mod_eq_of_lt hb]

include hv hx' hf in
/-- A normal number with at most 31 significant bits has its guest float (R389). -/
theorem toGuest_exact (hx : 1 ≤ x) :
    toGuest (BitVec.ofBool neg ++ v) = some (guestOf neg x f) := by
  have hfinite : BitVec.ofNat 11 x ≠ 0x7FF#11 := mt (ofNat_eq_ofNat_iff (by omega) (by decide)).mp (by omega)
  have hnormal : BitVec.ofNat 11 x ≠ 0#11 := mt (ofNat_eq_ofNat_iff (by omega) (by decide)).mp (by omega)
  have hnonzero : (BitVec.ofBool neg ++ v).extractLsb' 0 63 ≠ 0#63 := by
    rw [BitVec.extractLsb'_append_eq_of_add_le (by decide), BitVec.extractLsb'_eq_self]
    rintro rfl
    simp at hv
    omega
  have hpower : BitVec.ofNat 30 f = 0#30 ↔ f = 0 := ofNat_eq_ofNat_iff hf (by decide)
  rw [toGuest, exponent_field neg hv hx' hf, mantissa_field neg hv, signed_sign, if_neg hfinite, if_neg hnonzero,
    if_neg hnormal, rebias_exponent hx', rebias_exponent hx', one_append_mantissa hf]
  cases neg with
  | false => simp only [guestOf, Bool.not_false, if_true]
  | true => simp only [guestOf, hpower, apply_ite some, Bool.not_true, reduceCtorEq, if_false]

end

/-- Rounding and back, for a magnitude `n` with its leading bit at `k` and no more than 30 bits below it. -/
theorem toGuest_roundRat (neg : Bool) {n k x f : Nat} {e : Int} (hlow : 2 ^ k ≤ n) (hhigh : n < 2 ^ (k + 1))
    (hk : k ≤ 52) (he : (k : Int) + e + 1023 = x) (hn : n * 2 ^ (52 - k) = 2 ^ 52 + f * 2 ^ 22) (hx : 1 ≤ x)
    (hx' : x ≤ 2046) (hf : f < 2 ^ 30) : toGuest (roundRat neg n 1 e) = some (guestOf neg x f) := by
  rw [roundRat_exact neg hlow hhigh hk hx hx' he hn (by omega)]
  refine toGuest_exact neg ?_ hx' hf hx
  rw [BitVec.toNat_ofNat]
  exact Nat.mod_eq_of_lt (by omega)

/-! The round trip (R390). -/

/-- A normalised mantissa by its value: positive, or negative with its least value apart (R385). -/
theorem normalised_cases {m : Long} (h : Normalised m) :
    (2 ^ 30 ≤ m.toNat ∧ m.toNat < 2 ^ 31) ∨ m = 0x80000000#32
      ∨ (2 ^ 31 < m.toNat ∧ m.toNat < 2 ^ 31 + 2 ^ 30) := by
  have hlt := m.isLt
  rw [← BitVec.toNat_inj]
  simp only [Normalised, BitVec.getLsbD, Nat.testBit_eq_decide_div_mod_eq, ne_eq, decide_eq_decide] at h
  simp only [BitVec.toNat_ofNat]
  omega

/-- The double of a guest float in the band (R386). -/
def bandDouble (e : Word) (m : Long) : Double :=
  roundRat (decide (m.toInt < 0)) m.toInt.natAbs 1 ((e.toNat : Int) - 0x81F)

theorem toDouble_in_band {c : Config} {e : Word} {m : Long} (hlo : c.fpExpLo ≤ e.toNat) (hhi : e.toNat ≤ c.fpExpHi)
    (he : 0x403 ≤ e.toNat) (hm : m ≠ 0#32) :
    toDouble c e m = some (bandDouble e m) := by
  have h360 : ¬ (e = 0x007B#16 ∧ m = 0x86A80000#32) := by
    rintro ⟨rfl, -⟩
    exact absurd he (by decide)
  rw [toDouble, if_neg h360, if_neg hm, if_neg (by omega), bandDouble]

section
variable {e : Word} {m : Long} (he : 0x403 ≤ e.toNat) (he' : e.toNat ≤ 0xBFF)

theorem ofNat_eq_of_toNat {w : Nat} {v : BitVec w} {n : Nat} (h : v.toNat = n) : BitVec.ofNat w n = v := by
  rw [← h, BitVec.ofNat_toNat, BitVec.setWidth_eq]

include he he'

theorem toGuest_bandDouble_positive (hlow : 2 ^ 30 ≤ m.toNat) (hhigh : m.toNat < 2 ^ 31) :
    toGuest (bandDouble e m) = some (e, m) := by
  obtain ⟨x, hx⟩ : ∃ x, e.toNat = x + 0x402 := ⟨e.toNat - 0x402, by omega⟩
  obtain ⟨f, hf⟩ : ∃ f, m.toNat = 2 ^ 30 + f := ⟨m.toNat - 2 ^ 30, by omega⟩
  have hint : m.toInt = (2 ^ 30 + f : Nat) := by rw [BitVec.toInt_eq_toNat_of_lt (by omega), hf]
  rw [bandDouble, hint, decide_eq_false (by omega), Int.natAbs_natCast,
    toGuest_roundRat (k := 30) (x := x) (f := f), guestOf, if_pos rfl, ofNat_eq_of_toNat hx, ofNat_eq_of_toNat hf]
  all_goals omega

/-- The least mantissa is a power of two with its leading bit one place up, so one less is added to its exponent. -/
theorem toGuest_bandDouble_least : toGuest (bandDouble e 0x80000000#32) = some (e, 0x80000000#32) := by
  obtain ⟨x, hx⟩ : ∃ x, e.toNat = x + 0x401 := ⟨e.toNat - 0x401, by omega⟩
  have hneg : decide ((0x80000000#32 : Long).toInt < 0) = true := by decide
  have habs : (0x80000000#32 : Long).toInt.natAbs = 2 ^ 31 := by decide
  rw [bandDouble, hneg, habs, toGuest_roundRat true (k := 31) (x := x) (f := 0), guestOf, if_neg (by decide),
    if_pos rfl, ofNat_eq_of_toNat hx]
  all_goals omega

theorem toGuest_bandDouble_negative (hlow : 2 ^ 31 < m.toNat) (hhigh : m.toNat < 2 ^ 31 + 2 ^ 30) :
    toGuest (bandDouble e m) = some (e, m) := by
  obtain ⟨x, hx⟩ : ∃ x, e.toNat = x + 0x402 := ⟨e.toNat - 0x402, by omega⟩
  obtain ⟨f, hf⟩ : ∃ f, m.toNat + (2 ^ 30 + f) = 2 ^ 32 := ⟨2 ^ 31 + 2 ^ 30 - m.toNat, by omega⟩
  have hint : m.toInt = -(2 ^ 30 + f : Nat) := by
    rw [BitVec.toInt_eq_toNat_cond, if_neg (by omega)]
    omega
  have hm : 0#32 - BitVec.ofNat 32 (2 ^ 30 + f) = m := by bv_omega
  rw [bandDouble, hint, decide_eq_true (by omega), Int.natAbs_neg, Int.natAbs_natCast,
    toGuest_roundRat true (k := 30) (x := x) (f := f), guestOf, if_neg (by decide), if_neg (by omega),
    ofNat_eq_of_toNat hx, hm]
  all_goals omega

end

/-- Settles O51: no float of the band is rounded, and what comes back is the leading bit of its magnitude with the bits
below it, and the sign; for a zero mantissa both directions have a case of their own. -/
theorem guestFloatsRoundTrip : Obligations.GuestFloatsRoundTrip := by
  refine ⟨fun c e m hlo hhi he he' hm => ⟨_, toDouble_in_band hlo hhi he ?_, ?_⟩,
    fun c e => ⟨dZero false, ?_, rfl⟩⟩
  · rintro rfl
    exact hm rfl
  · rcases normalised_cases hm with ⟨hlow, hhigh⟩ | rfl | ⟨hlow, hhigh⟩
    · exact toGuest_bandDouble_positive he he' hlow hhigh
    · exact toGuest_bandDouble_least he he'
    · exact toGuest_bandDouble_negative he he' hlow hhigh
  · rw [toDouble, if_neg (fun h => absurd h.2 (by decide)), if_pos rfl]

/-! The two paths of a bridge operation (R399 to R402). -/

section
variable {op : FpOp} {w : Word} {x y : Double} {g : Word × Long} {s : State}

theorem exec_hosttrap_of_bridge (hstop : w ≠ s.config.band.stop) (hop : bridgeOpOf s.config w = some op) :
    exec (.hosttrap w) s = .next (bridge op s) := by
  show hostTrapWord w s = _
  rw [hostTrapWord, if_neg hstop, hop]

theorem bridgeOperands_of_claim (h : BridgeOperands op s x y) : bridgeOperands op s = some (x, y) := by
  obtain ⟨hx, hbinary, hunary⟩ := h
  rw [bridgeOperands, hx]
  cases hfn : fpBinary op.fn
  · simp [hunary hfn]
  · simp [hbinary hfn]

theorem bridgeResult_of_operands (h : BridgeOperands op s x y) :
    bridgeResult op s = toGuest (fpCompute op x y) := by
  rw [bridgeResult, bridgeOperands_of_claim h]

theorem bridge_of_result (h : bridgeResult op s = some g) : bridge op s = bridgeSuccess op g s := by
  rw [bridge, h]

theorem bridge_of_no_result (h : bridgeResult op s = none) : bridge op s = bridgeFailure op s := by
  rw [bridge, h]

/-- An operand outside the band ends the operation before anything is computed (R399). -/
theorem bridgeResult_of_no_operands (h : bridgeOperands op s = none) : bridgeResult op s = none := by
  rw [bridgeResult, h]

end

/-- Settles O50: without operands or without a representable result the operation takes its failure path, which
sets `pc` alone. -/
theorem bridgeFallsBackWithNothingChanged : Obligations.BridgeFallsBackWithNothingChanged := by
  intro w op s hstop hop hfails
  have hnone : bridgeResult op s = none := by
    rcases hfails with hx | ⟨hbinary, hy⟩ | ⟨x, y, hxy, hresult⟩
    · exact bridgeResult_of_no_operands (by rw [bridgeOperands, hx])
    · refine bridgeResult_of_no_operands ?_
      rw [bridgeOperands, hbinary, hy]
      cases s.readDouble s.floatPtr <;> rfl
    · exact (bridgeResult_of_operands hxy).trans hresult
  rw [exec_hosttrap_of_bridge hstop hop, bridge_of_no_result hnone]
  rfl

/-! What the success path leaves (R398, R401). -/

theorem setX_xAddr (r : RegNo) (v : Long) (s : State) : s.setX (xAddr r) v = s.setA r v :=
  dif_neg (Nat.not_lt.2 (Nat.le_add_left 8 r.val))

theorem setA_xreg (s : State) (r : RegNo) (v : Long) (q : XRegNo) :
    (s.setA r v).xreg q = if q = xAddr r then v else s.xreg q := by
  rw [← setX_xAddr, setX_xreg]

theorem memWrite_xreg (s : State) (sz : Size) (a v : Long) (q : XRegNo) :
    (s.memWrite sz a v).xreg q = s.xreg q := by
  simp only [State.xreg, State.memWrite_dreg, State.memWrite_areg]

/-- Clobbering changes the registers of the set and draws a value for each of them. -/
structure Clobbers (l : List XRegNo) (s t : State) : Prop where
  xreg   : ∀ q, q ∉ l → t.xreg q = s.xreg q
  sr     : t.sr = s.sr
  mem    : t.mem = s.mem
  events : t.events = s.events
  config : t.config = s.config
  draws  : t.draws = s.draws + l.length

theorem clobbers_clobber (l : List XRegNo) (s : State) : Clobbers l s (clobber l s) := by
  induction l generalizing s with
  | nil => exact ⟨fun _ _ => rfl, rfl, rfl, rfl, rfl, rfl⟩
  | cons r rest ih =>
    obtain ⟨xreg, sr, mem, events, config, draws⟩ := ih ((s.setX r (s.freeLong 0)).advanceDraws 1)
    refine ⟨fun q hq => ?_, sr.trans (setX_sr ..), mem.trans (setX_mem ..), events.trans (setX_events ..),
      config.trans (setX_config ..), ?_⟩
    · have hne : q ≠ r := List.ne_of_not_mem_cons hq
      exact (xreg q (List.not_mem_of_not_mem_cons hq)).trans ((setX_xreg ..).trans (if_neg hne))
    · rw [clobber, draws, State.advanceDraws_draws, setX_draws, List.length_cons]
      omega

theorem bridgeDest_eq_bridgeTarget (op : FpOp) (s : State) : bridgeDest op s = bridgeTarget op s := by
  simp only [bridgeDest, bridgeTarget, Bool.and_eq_true, decide_eq_true_eq]

/-- The two stores of a float (R382). -/
theorem storesFloat_writeFloat (a : Long) (g : Word × Long) (s : State) : StoresFloat a g s (s.writeFloat a g) := by
  refine ⟨s.memWrite .w a (g.1.setWidth 32), State.memWrite_config .., ?_, stores_memWrite ..⟩
  refine stores_congr ?_ (stores_memWrite ..)
  rw [BitVec.toNat_setWidth_of_le (by decide)]

/-- The state of a success before registers are clobbered and the caller's address is gone to. -/
def bridgeStored (op : FpOp) (g : Word × Long) (s : State) : State :=
  (s.drop32.writeFloat (bridgeTarget op s) g).setA s.config.fpPtrReg (bridgeTarget op s)

theorem bridgeSuccess_eq (op : FpOp) (g : Word × Long) (s : State) :
    bridgeSuccess op g s = (clobber op.clobbers (bridgeStored op g s)).setPc s.top32 := by
  rw [bridgeSuccess, bridgeDest_eq_bridgeTarget, bridgeStored]

section
variable (op : FpOp) (g : Word × Long) (s : State)

theorem bridgeStored_sr : (bridgeStored op g s).sr = s.sr := by
  rw [bridgeStored, State.setA_sr, State.writeFloat, State.memWrite_sr, State.memWrite_sr, State.drop32_sr]

theorem bridgeStored_draws : (bridgeStored op g s).draws = s.draws := by
  rw [bridgeStored, State.setA_draws, State.writeFloat, State.memWrite_draws, State.memWrite_draws, State.drop32_draws]

/-- The pointer register is not `A7` (R384), so the two writes of address registers do not meet. -/
theorem bridgeStored_xreg (hptr : s.config.fpPtrReg ≠ 7) (q : XRegNo) :
    (bridgeStored op g s).xreg q =
      if q = xAddr 7 then s.areg 7 + 4#32
      else if q = xAddr s.config.fpPtrReg then bridgeTarget op s else s.xreg q := by
  have hdrop : s.drop32.xreg q = if q = xAddr 7 then s.areg 7 + 4#32 else s.xreg q := setA_xreg s 7 _ q
  have hapart : xAddr s.config.fpPtrReg ≠ xAddr 7 := by
    simpa [xAddr, Fin.ext_iff] using hptr
  rw [bridgeStored, setA_xreg, State.writeFloat, memWrite_xreg, memWrite_xreg, hdrop]
  by_cases hq : q = xAddr 7
  · rw [if_pos hq, if_pos hq, if_neg (hq ▸ hapart.symm)]
  · rw [if_neg hq, if_neg hq]

end

theorem storesFloat_of_eq {a : Long} {g : Word × Long} {s t u : State} (h : StoresFloat a g s t)
    (hm : u.mem = t.mem) (he : u.events = t.events) : StoresFloat a g s u := by
  obtain ⟨m, hc, hword, hlong⟩ := h
  exact ⟨m, hc, hword, stores_of_eq hlong rfl rfl rfl hm he⟩

/-- Settles O49: the float is stored with the return address popped and the pointer moved; then registers are
clobbered, and the popped address is gone to. -/
theorem bridgeOperationSucceeds : Obligations.BridgeOperationSucceeds := by
  intro w op x y g s hstop hop hptr hxy hg
  have hsuccess : bridge op s = bridgeSuccess op g s := bridge_of_result ((bridgeResult_of_operands hxy).trans hg)
  have hsystem : KeepsSystem s (bridgeSuccess op g s) := hsuccess ▸ (Harmless.refl s).bridge.system
  obtain ⟨xreg, sr, mem, events, -, draws⟩ := clobbers_clobber op.clobbers (bridgeStored op g s)
  have hstores : StoresFloat (bridgeTarget op s) g s (s.drop32.writeFloat (bridgeTarget op s) g) :=
    storesFloat_writeFloat _ g s.drop32
  refine ⟨_, (exec_hosttrap_of_bridge hstop hop).trans (congrArg _ hsuccess), hsystem, ?_⟩
  rw [bridgeSuccess_eq]
  refine ⟨?flags, ?draws, storesFloat_of_eq hstores mem events, fun q hq => ?xreg, goesTo_setPc_toNat ..⟩
  case flags => exact congrArg StatusReg.ccr (sr.trans (bridgeStored_sr op g s))
  case draws => exact draws.trans (congrArg (· + _) (bridgeStored_draws op g s))
  case xreg => exact (xreg q hq).trans (bridgeStored_xreg op g s hptr q)

end Sys2Proof.Proofs
end
